-- ==== Sys2Proof/Word.lean ====
section
/-! DEFINITION. The word types of the core: bytes, 16-bit words, bit strings in read order, the bits of a
binary64 value, and the samples of a plane (10_state.md R67, R69). -/

namespace Sys2Proof

/-- A byte of the frame input buffer (10_state.md R57). -/
abbrev Byte := BitVec 8

/-- A 16-bit word: a header field (20_memory.md R101), a bitstream unit (R105), a packed code (30_encoding.md R150). -/
abbrev Half := BitVec 16

/-- The 64 bits of an IEEE 754 binary64 value (00_scope.md R11). -/
abbrev Double := BitVec 64

/-- A bit string in read order: the head is the first bit read (00_scope.md R10). -/
abbrev Bits := List Bool

/-- The bit 0 of a written codeword. -/
abbrev b0 : Bool := false

/-- The bit 1 of a written codeword. -/
abbrev b1 : Bool := true

/-- A coefficient of `BLK` or a sample of a plane: an integer in the variant INT, a binary64 value in the
variant FLOAT (10_state.md R67, R69). -/
inductive Sample where
  | int (v : Int)
  | float (b : Double)
  deriving DecidableEq, Repr, Inhabited

end Sys2Proof
end

