-- ==== Sys2Proof/Syntax.lean ====
section
/-! DEFINITION. The instructions: one constructor for each row of spec/opcode_table.json, and the operand
types they carry.  Three packed codes (40_mdec_code.md R204), nineteen DC codewords (42_entropy_dc.md), the
end-of-block, escape and VLC codewords (43_entropy_ac.md) and eight host commands (47_host_interface.md). -/

namespace Sys2Proof

/-- The numeric variant of the reconstruction engine (10_state.md R53). -/
inductive Variant where
  | int
  | float
  deriving DecidableEq, Repr, Inhabited

/-- The chroma kernels the source names but does not define (46_color.md R602): the bilinear scheme, and the
convolution family, whose members are selected by name. -/
inductive Kernel where
  | bilinear
  | convolution (name : Byte)
  deriving DecidableEq, Repr, Inhabited

/-- `CFG.UPSAMPLER`: NEAREST or an open kernel (10_state.md R53). -/
inductive Upsampler where
  | nearest
  | kernel (k : Kernel)
  deriving DecidableEq, Repr, Inhabited

/-- The colour space of `READ_YCBCR420` (47_host_interface.md R656). -/
inductive Colorspace where
  | console
  | rec601
  deriving DecidableEq, Repr, Inhabited

/-- The instructions of spec/opcode_table.json, in the table's order.  A VLC codeword carries its sign bit
(`neg`, 30_encoding.md R161), a differential DC codeword its difference bits `v`. -/
inductive Instr where
  /-- The packed end-of-block code 0xFE00 (30_encoding.md R151). -/
  | mdecEob
  /-- The packed first code of a block: qscale and DC (40_mdec_code.md R204). -/
  | mdecDc (q : BitVec 6) (d : BitVec 10)
  /-- A later packed code: zero-run and level (40_mdec_code.md R204). -/
  | mdecAc (r : BitVec 6) (l : BitVec 10)
  /-- The 10-bit shared DC codeword (42_entropy_dc.md R300). -/
  | dcShared (d : BitVec 10)
  /-- `100` (42_entropy_dc.md R310). -/
  | dcDiffYS0
  /-- `00v` (42_entropy_dc.md R311). -/
  | dcDiffYS1 (v : BitVec 1)
  /-- `01vv` (42_entropy_dc.md R312). -/
  | dcDiffYS2 (v : BitVec 2)
  /-- `101vvv` (42_entropy_dc.md R313). -/
  | dcDiffYS3 (v : BitVec 3)
  /-- `110vvvv` (42_entropy_dc.md R314). -/
  | dcDiffYS4 (v : BitVec 4)
  /-- `1110vvvvv` (42_entropy_dc.md R315). -/
  | dcDiffYS5 (v : BitVec 5)
  /-- `11110vvvvvv` (42_entropy_dc.md R316). -/
  | dcDiffYS6 (v : BitVec 6)
  /-- `111110vvvvvvv` (42_entropy_dc.md R317). -/
  | dcDiffYS7 (v : BitVec 7)
  /-- `1111110vvvvvvvv` (42_entropy_dc.md R318). -/
  | dcDiffYS8 (v : BitVec 8)
  /-- `00` (42_entropy_dc.md R320). -/
  | dcDiffCS0
  /-- `01v` (42_entropy_dc.md R321). -/
  | dcDiffCS1 (v : BitVec 1)
  /-- `10vv` (42_entropy_dc.md R322). -/
  | dcDiffCS2 (v : BitVec 2)
  /-- `110vvv` (42_entropy_dc.md R323). -/
  | dcDiffCS3 (v : BitVec 3)
  /-- `1110vvvv` (42_entropy_dc.md R324). -/
  | dcDiffCS4 (v : BitVec 4)
  /-- `11110vvvvv` (42_entropy_dc.md R325). -/
  | dcDiffCS5 (v : BitVec 5)
  /-- `111110vvvvvv` (42_entropy_dc.md R326). -/
  | dcDiffCS6 (v : BitVec 6)
  /-- `1111110vvvvvvv` (42_entropy_dc.md R327). -/
  | dcDiffCS7 (v : BitVec 7)
  /-- `11111110vvvvvvvv` (42_entropy_dc.md R328). -/
  | dcDiffCS8 (v : BitVec 8)
  /-- `10` (43_entropy_ac.md R360). -/
  | acEob
  /-- `000001`, run, level (43_entropy_ac.md R362). -/
  | acEscape (r : BitVec 6) (l : BitVec 10)
  | acR0M1 (neg : Bool)
  | acR1M1 (neg : Bool)
  | acR0M2 (neg : Bool)
  | acR2M1 (neg : Bool)
  | acR0M3 (neg : Bool)
  | acR3M1 (neg : Bool)
  | acR4M1 (neg : Bool)
  | acR1M2 (neg : Bool)
  | acR5M1 (neg : Bool)
  | acR6M1 (neg : Bool)
  | acR7M1 (neg : Bool)
  | acR0M4 (neg : Bool)
  | acR2M2 (neg : Bool)
  | acR8M1 (neg : Bool)
  | acR9M1 (neg : Bool)
  | acR0M5 (neg : Bool)
  | acR0M6 (neg : Bool)
  | acR1M3 (neg : Bool)
  | acR3M2 (neg : Bool)
  | acR10M1 (neg : Bool)
  | acR11M1 (neg : Bool)
  | acR12M1 (neg : Bool)
  | acR13M1 (neg : Bool)
  | acR0M7 (neg : Bool)
  | acR1M4 (neg : Bool)
  | acR2M3 (neg : Bool)
  | acR4M2 (neg : Bool)
  | acR5M2 (neg : Bool)
  | acR14M1 (neg : Bool)
  | acR15M1 (neg : Bool)
  | acR16M1 (neg : Bool)
  | acR0M8 (neg : Bool)
  | acR0M9 (neg : Bool)
  | acR0M10 (neg : Bool)
  | acR0M11 (neg : Bool)
  | acR1M5 (neg : Bool)
  | acR2M4 (neg : Bool)
  | acR3M3 (neg : Bool)
  | acR4M3 (neg : Bool)
  | acR6M2 (neg : Bool)
  | acR7M2 (neg : Bool)
  | acR8M2 (neg : Bool)
  | acR17M1 (neg : Bool)
  | acR18M1 (neg : Bool)
  | acR19M1 (neg : Bool)
  | acR20M1 (neg : Bool)
  | acR21M1 (neg : Bool)
  | acR0M12 (neg : Bool)
  | acR0M13 (neg : Bool)
  | acR0M14 (neg : Bool)
  | acR0M15 (neg : Bool)
  | acR1M6 (neg : Bool)
  | acR1M7 (neg : Bool)
  | acR2M5 (neg : Bool)
  | acR3M4 (neg : Bool)
  | acR5M3 (neg : Bool)
  | acR9M2 (neg : Bool)
  | acR10M2 (neg : Bool)
  | acR22M1 (neg : Bool)
  | acR23M1 (neg : Bool)
  | acR24M1 (neg : Bool)
  | acR25M1 (neg : Bool)
  | acR26M1 (neg : Bool)
  | acR0M16 (neg : Bool)
  | acR0M17 (neg : Bool)
  | acR0M18 (neg : Bool)
  | acR0M19 (neg : Bool)
  | acR0M20 (neg : Bool)
  | acR0M21 (neg : Bool)
  | acR0M22 (neg : Bool)
  | acR0M23 (neg : Bool)
  | acR0M24 (neg : Bool)
  | acR0M25 (neg : Bool)
  | acR0M26 (neg : Bool)
  | acR0M27 (neg : Bool)
  | acR0M28 (neg : Bool)
  | acR0M29 (neg : Bool)
  | acR0M30 (neg : Bool)
  | acR0M31 (neg : Bool)
  | acR0M32 (neg : Bool)
  | acR0M33 (neg : Bool)
  | acR0M34 (neg : Bool)
  | acR0M35 (neg : Bool)
  | acR0M36 (neg : Bool)
  | acR0M37 (neg : Bool)
  | acR0M38 (neg : Bool)
  | acR0M39 (neg : Bool)
  | acR0M40 (neg : Bool)
  | acR1M8 (neg : Bool)
  | acR1M9 (neg : Bool)
  | acR1M10 (neg : Bool)
  | acR1M11 (neg : Bool)
  | acR1M12 (neg : Bool)
  | acR1M13 (neg : Bool)
  | acR1M14 (neg : Bool)
  | acR1M15 (neg : Bool)
  | acR1M16 (neg : Bool)
  | acR1M17 (neg : Bool)
  | acR1M18 (neg : Bool)
  | acR6M3 (neg : Bool)
  | acR11M2 (neg : Bool)
  | acR12M2 (neg : Bool)
  | acR13M2 (neg : Bool)
  | acR14M2 (neg : Bool)
  | acR15M2 (neg : Bool)
  | acR16M2 (neg : Bool)
  | acR27M1 (neg : Bool)
  | acR28M1 (neg : Bool)
  | acR29M1 (neg : Bool)
  | acR30M1 (neg : Bool)
  | acR31M1 (neg : Bool)
  /-- 47_host_interface.md R650. -/
  | configure (width height : Int) (variant : Variant) (filterMerge : Bool) (upsampler : Upsampler)
  /-- 47_host_interface.md R651: the table in vector-position order. -/
  | setQuant (table : List Int)
  /-- 47_host_interface.md R652. -/
  | loadFrame (bytes : List Byte)
  /-- 47_host_interface.md R653. -/
  | readCode
  /-- 47_host_interface.md R654. -/
  | decodeFrame
  /-- 47_host_interface.md R655: `len` is the length `L` of the host's array. -/
  | readRgb (len offset stride : Nat)
  /-- 47_host_interface.md R656: `len` is the length `L` of the host's array. -/
  | readYcbcr420 (len : Nat) (colorspace : Colorspace)
  /-- 47_host_interface.md R657. -/
  | queryStatus
  deriving DecidableEq, Repr, Inhabited

end Sys2Proof
end

