-- ==== Sys2Proof/WellFormed.lean ====
section
/-! DEFINITION. Which instructions have an encoding: a later packed code is not the end-of-block word
(30_encoding.md R151), and a host command's operands fit the bytes of its request (log 27). -/

namespace Sys2Proof

/-- The integer fits the four bytes a request gives it (log 27). -/
def fitsInt32 (v : Int) : Bool := decide (-2147483648 ≤ v) && decide (v ≤ 2147483647)

/-- The number fits the eight bytes a request gives it (log 27). -/
def fitsNat64 (n : Nat) : Bool := decide (n < 18446744073709551616)

/-- The instruction is one that `encode` can write and `decode` reads back. -/
def Instr.wellFormed : Instr → Bool
  | .mdecAc r l => !(r == 63#6 && l == 512#10)
  | .configure w h _ _ _ => fitsInt32 w && fitsInt32 h
  | .setQuant t => t.length == 64 && t.all fitsInt32
  | .readRgb len offset stride => fitsNat64 len && fitsNat64 offset && fitsNat64 stride
  | .readYcbcr420 len _ => fitsNat64 len
  | .mdecEob | .mdecDc _ _ | .dcShared _ | .dcDiffYS0 | .dcDiffYS1 _ | .dcDiffYS2 _ | .dcDiffYS3 _
  | .dcDiffYS4 _ | .dcDiffYS5 _ | .dcDiffYS6 _ | .dcDiffYS7 _ | .dcDiffYS8 _ | .dcDiffCS0 | .dcDiffCS1 _
  | .dcDiffCS2 _ | .dcDiffCS3 _ | .dcDiffCS4 _ | .dcDiffCS5 _ | .dcDiffCS6 _ | .dcDiffCS7 _ | .dcDiffCS8 _
  | .acEob | .acEscape _ _ | .acR0M1 _ | .acR1M1 _ | .acR0M2 _ | .acR2M1 _ | .acR0M3 _ | .acR3M1 _ | .acR4M1 _
  | .acR1M2 _ | .acR5M1 _ | .acR6M1 _ | .acR7M1 _ | .acR0M4 _ | .acR2M2 _ | .acR8M1 _ | .acR9M1 _ | .acR0M5 _
  | .acR0M6 _ | .acR1M3 _ | .acR3M2 _ | .acR10M1 _ | .acR11M1 _ | .acR12M1 _ | .acR13M1 _ | .acR0M7 _
  | .acR1M4 _ | .acR2M3 _ | .acR4M2 _ | .acR5M2 _ | .acR14M1 _ | .acR15M1 _ | .acR16M1 _ | .acR0M8 _
  | .acR0M9 _ | .acR0M10 _ | .acR0M11 _ | .acR1M5 _ | .acR2M4 _ | .acR3M3 _ | .acR4M3 _ | .acR6M2 _ | .acR7M2 _
  | .acR8M2 _ | .acR17M1 _ | .acR18M1 _ | .acR19M1 _ | .acR20M1 _ | .acR21M1 _ | .acR0M12 _ | .acR0M13 _
  | .acR0M14 _ | .acR0M15 _ | .acR1M6 _ | .acR1M7 _ | .acR2M5 _ | .acR3M4 _ | .acR5M3 _ | .acR9M2 _
  | .acR10M2 _ | .acR22M1 _ | .acR23M1 _ | .acR24M1 _ | .acR25M1 _ | .acR26M1 _ | .acR0M16 _ | .acR0M17 _
  | .acR0M18 _ | .acR0M19 _ | .acR0M20 _ | .acR0M21 _ | .acR0M22 _ | .acR0M23 _ | .acR0M24 _ | .acR0M25 _
  | .acR0M26 _ | .acR0M27 _ | .acR0M28 _ | .acR0M29 _ | .acR0M30 _ | .acR0M31 _ | .acR0M32 _ | .acR0M33 _
  | .acR0M34 _ | .acR0M35 _ | .acR0M36 _ | .acR0M37 _ | .acR0M38 _ | .acR0M39 _ | .acR0M40 _ | .acR1M8 _
  | .acR1M9 _ | .acR1M10 _ | .acR1M11 _ | .acR1M12 _ | .acR1M13 _ | .acR1M14 _ | .acR1M15 _ | .acR1M16 _
  | .acR1M17 _ | .acR1M18 _ | .acR6M3 _ | .acR11M2 _ | .acR12M2 _ | .acR13M2 _ | .acR14M2 _ | .acR15M2 _
  | .acR16M2 _ | .acR27M1 _ | .acR28M1 _ | .acR29M1 _ | .acR30M1 _ | .acR31M1 _ | .loadFrame _ | .readCode
  | .decodeFrame | .queryStatus => true

end Sys2Proof
end

