-- ==== Sys2Proof/Decode.lean ====
section
/-! DEFINITION. The decoder and the encoder, from the encodings of 30_encoding.md and the tables of
42_entropy_dc.md R305 and 30_encoding.md R163.  What a bit string means depends on where it stands (the first
code of a block or a later one, luma or chroma, the DC scheme): the position is the `Context`. -/

namespace Sys2Proof

/-- Where an instruction stands: what the core expects to read there. -/
inductive Context where
  /-- The first codeword of a block, shared scheme (42_entropy_dc.md R300). -/
  | dcShared
  /-- The first codeword of a luma block, differential scheme (R303). -/
  | dcLuma
  /-- The first codeword of a chroma block, differential scheme (R303). -/
  | dcChroma
  /-- A later codeword of a block, mainline AC table (43_entropy_ac.md R350). -/
  | ac
  /-- A later codeword of a block, title AC table (43_entropy_ac.md R370): only the end of block is the mainline's. -/
  | acTitle
  /-- The first packed code of a block (40_mdec_code.md R212). -/
  | codeFirst
  /-- A later packed code of a block (40_mdec_code.md R212). -/
  | codeLater
  /-- A request of the host (47_host_interface.md R658). -/
  | command
  deriving DecidableEq, Repr, Inhabited

/-! ## Bit strings -/

/-- The number a bit string reads as, most significant bit first (00_scope.md R10). -/
def natOfBits (bs : Bits) : Nat := bs.foldl (fun n b => 2 * n + b.toNat) 0

/-- The low `k` bits of a number as a bit string, most significant bit first. -/
def bitsOfNat : Nat → Nat → Bits
  | 0, _ => []
  | k + 1, v => v.testBit k :: bitsOfNat k v

/-- The bits of a word, most significant first. -/
def bitsOf {n : Nat} (v : BitVec n) : Bits := bitsOfNat n v.toNat

/-- What is left of `w` after the bits of `code`, if `code` is a prefix of it. -/
def stripPrefix : Bits → Bits → Option Bits
  | [], w => some w
  | _ :: _, [] => none
  | c :: cs, b :: bs => if c = b then stripPrefix cs bs else none

/-- The first `n` elements and the rest, if there are as many. -/
def splitExact {α : Type} : Nat → List α → Option (List α × List α)
  | 0, l => some ([], l)
  | _ + 1, [] => none
  | n + 1, a :: l => match splitExact n l with
    | some (front, rest) => some (a :: front, rest)
    | none => none

/-- The two bit strings agree as far as both go. -/
def agrees : Bits → Bits → Bool
  | [], _ => true
  | _, [] => true
  | c :: cs, b :: bs => c == b && agrees cs bs

/-! ## Codewords of the bitstream -/

/-- A row of a codeword table: the fixed bits, how many operand bits follow, and the instruction they give. -/
structure Row where
  code : Bits
  extra : Nat
  build : Bits → Instr

/-- What the upcoming bits are, by the classification of 43_entropy_ac.md R351. -/
inductive Match where
  /-- The bits begin with this codeword, of this many bits. -/
  | found (i : Instr) (len : Nat)
  /-- The bits are a proper prefix of a codeword. -/
  | needMore
  /-- No codeword begins so. -/
  | unmatched
  deriving DecidableEq, Repr

/-- The row's codeword, if the bits begin with it. -/
def matchRow (r : Row) (w : Bits) : Option (Instr × Nat) :=
  match stripPrefix r.code w with
  | none => none
  | some rest => match splitExact r.extra rest with
    | none => none
    | some (operand, _) => some (r.build operand, r.code.length + r.extra)

/-- The classification of the bits `w` against a prefix-free table (43_entropy_ac.md R351). -/
def classifyRows (rows : List Row) (w : Bits) : Match :=
  match rows.findSome? (fun r => matchRow r w) with
  | some (i, len) => .found i len
  | none => if rows.any (fun r => agrees r.code w) then .needMore else .unmatched

/-- A VLC row: the code, then one sign bit, 0 positive (30_encoding.md R161). -/
def vlcRow (code : Bits) (ctor : Bool → Instr) : Row := ⟨code, 1, fun b => ctor (b.headD false)⟩

/-- The rows of the end of block and the escape (30_encoding.md R160). -/
def controlRows : List Row :=
  [⟨[b1, b0], 0, fun _ => .acEob⟩,
   ⟨[b0, b0, b0, b0, b0, b1], 16, fun b =>
     .acEscape (BitVec.ofNat 6 (natOfBits (b.take 6))) (BitVec.ofNat 10 (natOfBits (b.drop 6)))⟩]

/-- The VLC codewords of 2 to 7 bits before the sign (30_encoding.md R163, 43_entropy_ac rules R380 to R394). -/
def acRows2to7 : List Row :=
  [vlcRow [b1, b1] .acR0M1,
   vlcRow [b0, b1, b1] .acR1M1,
   vlcRow [b0, b1, b0, b0] .acR0M2,
   vlcRow [b0, b1, b0, b1] .acR2M1,
   vlcRow [b0, b0, b1, b0, b1] .acR0M3,
   vlcRow [b0, b0, b1, b1, b1] .acR3M1,
   vlcRow [b0, b0, b1, b1, b0] .acR4M1,
   vlcRow [b0, b0, b0, b1, b1, b0] .acR1M2,
   vlcRow [b0, b0, b0, b1, b1, b1] .acR5M1,
   vlcRow [b0, b0, b0, b1, b0, b1] .acR6M1,
   vlcRow [b0, b0, b0, b1, b0, b0] .acR7M1,
   vlcRow [b0, b0, b0, b0, b1, b1, b0] .acR0M4,
   vlcRow [b0, b0, b0, b0, b1, b0, b0] .acR2M2,
   vlcRow [b0, b0, b0, b0, b1, b1, b1] .acR8M1,
   vlcRow [b0, b0, b0, b0, b1, b0, b1] .acR9M1]

/-- The VLC codewords of 8 to 10 bits before the sign (30_encoding.md R163, 43_entropy_ac rules R395 to R410). -/
def acRows8to10 : List Row :=
  [vlcRow [b0, b0, b1, b0, b0, b1, b1, b0] .acR0M5,
   vlcRow [b0, b0, b1, b0, b0, b0, b0, b1] .acR0M6,
   vlcRow [b0, b0, b1, b0, b0, b1, b0, b1] .acR1M3,
   vlcRow [b0, b0, b1, b0, b0, b1, b0, b0] .acR3M2,
   vlcRow [b0, b0, b1, b0, b0, b1, b1, b1] .acR10M1,
   vlcRow [b0, b0, b1, b0, b0, b0, b1, b1] .acR11M1,
   vlcRow [b0, b0, b1, b0, b0, b0, b1, b0] .acR12M1,
   vlcRow [b0, b0, b1, b0, b0, b0, b0, b0] .acR13M1,
   vlcRow [b0, b0, b0, b0, b0, b0, b1, b0, b1, b0] .acR0M7,
   vlcRow [b0, b0, b0, b0, b0, b0, b1, b1, b0, b0] .acR1M4,
   vlcRow [b0, b0, b0, b0, b0, b0, b1, b0, b1, b1] .acR2M3,
   vlcRow [b0, b0, b0, b0, b0, b0, b1, b1, b1, b1] .acR4M2,
   vlcRow [b0, b0, b0, b0, b0, b0, b1, b0, b0, b1] .acR5M2,
   vlcRow [b0, b0, b0, b0, b0, b0, b1, b1, b1, b0] .acR14M1,
   vlcRow [b0, b0, b0, b0, b0, b0, b1, b1, b0, b1] .acR15M1,
   vlcRow [b0, b0, b0, b0, b0, b0, b1, b0, b0, b0] .acR16M1]

/-- The VLC codewords of 12 bits before the sign (30_encoding.md R163, 43_entropy_ac rules R411 to R426). -/
def acRows12 : List Row :=
  [vlcRow [b0, b0, b0, b0, b0, b0, b0, b1, b1, b1, b0, b1] .acR0M8,
   vlcRow [b0, b0, b0, b0, b0, b0, b0, b1, b1, b0, b0, b0] .acR0M9,
   vlcRow [b0, b0, b0, b0, b0, b0, b0, b1, b0, b0, b1, b1] .acR0M10,
   vlcRow [b0, b0, b0, b0, b0, b0, b0, b1, b0, b0, b0, b0] .acR0M11,
   vlcRow [b0, b0, b0, b0, b0, b0, b0, b1, b1, b0, b1, b1] .acR1M5,
   vlcRow [b0, b0, b0, b0, b0, b0, b0, b1, b0, b1, b0, b0] .acR2M4,
   vlcRow [b0, b0, b0, b0, b0, b0, b0, b1, b1, b1, b0, b0] .acR3M3,
   vlcRow [b0, b0, b0, b0, b0, b0, b0, b1, b0, b0, b1, b0] .acR4M3,
   vlcRow [b0, b0, b0, b0, b0, b0, b0, b1, b1, b1, b1, b0] .acR6M2,
   vlcRow [b0, b0, b0, b0, b0, b0, b0, b1, b0, b1, b0, b1] .acR7M2,
   vlcRow [b0, b0, b0, b0, b0, b0, b0, b1, b0, b0, b0, b1] .acR8M2,
   vlcRow [b0, b0, b0, b0, b0, b0, b0, b1, b1, b1, b1, b1] .acR17M1,
   vlcRow [b0, b0, b0, b0, b0, b0, b0, b1, b1, b0, b1, b0] .acR18M1,
   vlcRow [b0, b0, b0, b0, b0, b0, b0, b1, b1, b0, b0, b1] .acR19M1,
   vlcRow [b0, b0, b0, b0, b0, b0, b0, b1, b0, b1, b1, b1] .acR20M1,
   vlcRow [b0, b0, b0, b0, b0, b0, b0, b1, b0, b1, b1, b0] .acR21M1]

/-- The VLC codewords of 13 bits before the sign (30_encoding.md R163, 43_entropy_ac rules R427 to R442). -/
def acRows13 : List Row :=
  [vlcRow [b0, b0, b0, b0, b0, b0, b0, b0, b1, b1, b0, b1, b0] .acR0M12,
   vlcRow [b0, b0, b0, b0, b0, b0, b0, b0, b1, b1, b0, b0, b1] .acR0M13,
   vlcRow [b0, b0, b0, b0, b0, b0, b0, b0, b1, b1, b0, b0, b0] .acR0M14,
   vlcRow [b0, b0, b0, b0, b0, b0, b0, b0, b1, b0, b1, b1, b1] .acR0M15,
   vlcRow [b0, b0, b0, b0, b0, b0, b0, b0, b1, b0, b1, b1, b0] .acR1M6,
   vlcRow [b0, b0, b0, b0, b0, b0, b0, b0, b1, b0, b1, b0, b1] .acR1M7,
   vlcRow [b0, b0, b0, b0, b0, b0, b0, b0, b1, b0, b1, b0, b0] .acR2M5,
   vlcRow [b0, b0, b0, b0, b0, b0, b0, b0, b1, b0, b0, b1, b1] .acR3M4,
   vlcRow [b0, b0, b0, b0, b0, b0, b0, b0, b1, b0, b0, b1, b0] .acR5M3,
   vlcRow [b0, b0, b0, b0, b0, b0, b0, b0, b1, b0, b0, b0, b1] .acR9M2,
   vlcRow [b0, b0, b0, b0, b0, b0, b0, b0, b1, b0, b0, b0, b0] .acR10M2,
   vlcRow [b0, b0, b0, b0, b0, b0, b0, b0, b1, b1, b1, b1, b1] .acR22M1,
   vlcRow [b0, b0, b0, b0, b0, b0, b0, b0, b1, b1, b1, b1, b0] .acR23M1,
   vlcRow [b0, b0, b0, b0, b0, b0, b0, b0, b1, b1, b1, b0, b1] .acR24M1,
   vlcRow [b0, b0, b0, b0, b0, b0, b0, b0, b1, b1, b1, b0, b0] .acR25M1,
   vlcRow [b0, b0, b0, b0, b0, b0, b0, b0, b1, b1, b0, b1, b1] .acR26M1]

/-- The VLC codewords of 14 bits before the sign (30_encoding.md R163, 43_entropy_ac rules R443 to R458). -/
def acRows14 : List Row :=
  [vlcRow [b0, b0, b0, b0, b0, b0, b0, b0, b0, b1, b1, b1, b1, b1] .acR0M16,
   vlcRow [b0, b0, b0, b0, b0, b0, b0, b0, b0, b1, b1, b1, b1, b0] .acR0M17,
   vlcRow [b0, b0, b0, b0, b0, b0, b0, b0, b0, b1, b1, b1, b0, b1] .acR0M18,
   vlcRow [b0, b0, b0, b0, b0, b0, b0, b0, b0, b1, b1, b1, b0, b0] .acR0M19,
   vlcRow [b0, b0, b0, b0, b0, b0, b0, b0, b0, b1, b1, b0, b1, b1] .acR0M20,
   vlcRow [b0, b0, b0, b0, b0, b0, b0, b0, b0, b1, b1, b0, b1, b0] .acR0M21,
   vlcRow [b0, b0, b0, b0, b0, b0, b0, b0, b0, b1, b1, b0, b0, b1] .acR0M22,
   vlcRow [b0, b0, b0, b0, b0, b0, b0, b0, b0, b1, b1, b0, b0, b0] .acR0M23,
   vlcRow [b0, b0, b0, b0, b0, b0, b0, b0, b0, b1, b0, b1, b1, b1] .acR0M24,
   vlcRow [b0, b0, b0, b0, b0, b0, b0, b0, b0, b1, b0, b1, b1, b0] .acR0M25,
   vlcRow [b0, b0, b0, b0, b0, b0, b0, b0, b0, b1, b0, b1, b0, b1] .acR0M26,
   vlcRow [b0, b0, b0, b0, b0, b0, b0, b0, b0, b1, b0, b1, b0, b0] .acR0M27,
   vlcRow [b0, b0, b0, b0, b0, b0, b0, b0, b0, b1, b0, b0, b1, b1] .acR0M28,
   vlcRow [b0, b0, b0, b0, b0, b0, b0, b0, b0, b1, b0, b0, b1, b0] .acR0M29,
   vlcRow [b0, b0, b0, b0, b0, b0, b0, b0, b0, b1, b0, b0, b0, b1] .acR0M30,
   vlcRow [b0, b0, b0, b0, b0, b0, b0, b0, b0, b1, b0, b0, b0, b0] .acR0M31]

/-- The VLC codewords of 15 bits before the sign (30_encoding.md R163, 43_entropy_ac rules R459 to R474). -/
def acRows15 : List Row :=
  [vlcRow [b0, b0, b0, b0, b0, b0, b0, b0, b0, b0, b1, b1, b0, b0, b0] .acR0M32,
   vlcRow [b0, b0, b0, b0, b0, b0, b0, b0, b0, b0, b1, b0, b1, b1, b1] .acR0M33,
   vlcRow [b0, b0, b0, b0, b0, b0, b0, b0, b0, b0, b1, b0, b1, b1, b0] .acR0M34,
   vlcRow [b0, b0, b0, b0, b0, b0, b0, b0, b0, b0, b1, b0, b1, b0, b1] .acR0M35,
   vlcRow [b0, b0, b0, b0, b0, b0, b0, b0, b0, b0, b1, b0, b1, b0, b0] .acR0M36,
   vlcRow [b0, b0, b0, b0, b0, b0, b0, b0, b0, b0, b1, b0, b0, b1, b1] .acR0M37,
   vlcRow [b0, b0, b0, b0, b0, b0, b0, b0, b0, b0, b1, b0, b0, b1, b0] .acR0M38,
   vlcRow [b0, b0, b0, b0, b0, b0, b0, b0, b0, b0, b1, b0, b0, b0, b1] .acR0M39,
   vlcRow [b0, b0, b0, b0, b0, b0, b0, b0, b0, b0, b1, b0, b0, b0, b0] .acR0M40,
   vlcRow [b0, b0, b0, b0, b0, b0, b0, b0, b0, b0, b1, b1, b1, b1, b1] .acR1M8,
   vlcRow [b0, b0, b0, b0, b0, b0, b0, b0, b0, b0, b1, b1, b1, b1, b0] .acR1M9,
   vlcRow [b0, b0, b0, b0, b0, b0, b0, b0, b0, b0, b1, b1, b1, b0, b1] .acR1M10,
   vlcRow [b0, b0, b0, b0, b0, b0, b0, b0, b0, b0, b1, b1, b1, b0, b0] .acR1M11,
   vlcRow [b0, b0, b0, b0, b0, b0, b0, b0, b0, b0, b1, b1, b0, b1, b1] .acR1M12,
   vlcRow [b0, b0, b0, b0, b0, b0, b0, b0, b0, b0, b1, b1, b0, b1, b0] .acR1M13,
   vlcRow [b0, b0, b0, b0, b0, b0, b0, b0, b0, b0, b1, b1, b0, b0, b1] .acR1M14]

/-- The VLC codewords of 16 bits before the sign (30_encoding.md R163, 43_entropy_ac rules R475 to R490). -/
def acRows16 : List Row :=
  [vlcRow [b0, b0, b0, b0, b0, b0, b0, b0, b0, b0, b0, b1, b0, b0, b1, b1] .acR1M15,
   vlcRow [b0, b0, b0, b0, b0, b0, b0, b0, b0, b0, b0, b1, b0, b0, b1, b0] .acR1M16,
   vlcRow [b0, b0, b0, b0, b0, b0, b0, b0, b0, b0, b0, b1, b0, b0, b0, b1] .acR1M17,
   vlcRow [b0, b0, b0, b0, b0, b0, b0, b0, b0, b0, b0, b1, b0, b0, b0, b0] .acR1M18,
   vlcRow [b0, b0, b0, b0, b0, b0, b0, b0, b0, b0, b0, b1, b0, b1, b0, b0] .acR6M3,
   vlcRow [b0, b0, b0, b0, b0, b0, b0, b0, b0, b0, b0, b1, b1, b0, b1, b0] .acR11M2,
   vlcRow [b0, b0, b0, b0, b0, b0, b0, b0, b0, b0, b0, b1, b1, b0, b0, b1] .acR12M2,
   vlcRow [b0, b0, b0, b0, b0, b0, b0, b0, b0, b0, b0, b1, b1, b0, b0, b0] .acR13M2,
   vlcRow [b0, b0, b0, b0, b0, b0, b0, b0, b0, b0, b0, b1, b0, b1, b1, b1] .acR14M2,
   vlcRow [b0, b0, b0, b0, b0, b0, b0, b0, b0, b0, b0, b1, b0, b1, b1, b0] .acR15M2,
   vlcRow [b0, b0, b0, b0, b0, b0, b0, b0, b0, b0, b0, b1, b0, b1, b0, b1] .acR16M2,
   vlcRow [b0, b0, b0, b0, b0, b0, b0, b0, b0, b0, b0, b1, b1, b1, b1, b1] .acR27M1,
   vlcRow [b0, b0, b0, b0, b0, b0, b0, b0, b0, b0, b0, b1, b1, b1, b1, b0] .acR28M1,
   vlcRow [b0, b0, b0, b0, b0, b0, b0, b0, b0, b0, b0, b1, b1, b1, b0, b1] .acR29M1,
   vlcRow [b0, b0, b0, b0, b0, b0, b0, b0, b0, b0, b0, b1, b1, b1, b0, b0] .acR30M1,
   vlcRow [b0, b0, b0, b0, b0, b0, b0, b0, b0, b0, b0, b1, b1, b0, b1, b1] .acR31M1]

/-- The mainline AC table (30_encoding.md R160, R163), in the source's order of checks (43_entropy_ac.md R352). -/
def acRows : List Row :=
  controlRows ++ acRows2to7 ++ acRows8to10 ++ acRows12 ++ acRows13 ++ acRows14 ++ acRows15 ++ acRows16

/-- The differential DC table of luma blocks (42_entropy_dc.md R305, R310 to R318): size prefix, then difference bits. -/
def dcLumaRows : List Row :=
  [⟨[b1, b0, b0], 0, fun _ => .dcDiffYS0⟩,
   ⟨[b0, b0], 1, fun b => .dcDiffYS1 (BitVec.ofNat 1 (natOfBits b))⟩,
   ⟨[b0, b1], 2, fun b => .dcDiffYS2 (BitVec.ofNat 2 (natOfBits b))⟩,
   ⟨[b1, b0, b1], 3, fun b => .dcDiffYS3 (BitVec.ofNat 3 (natOfBits b))⟩,
   ⟨[b1, b1, b0], 4, fun b => .dcDiffYS4 (BitVec.ofNat 4 (natOfBits b))⟩,
   ⟨[b1, b1, b1, b0], 5, fun b => .dcDiffYS5 (BitVec.ofNat 5 (natOfBits b))⟩,
   ⟨[b1, b1, b1, b1, b0], 6, fun b => .dcDiffYS6 (BitVec.ofNat 6 (natOfBits b))⟩,
   ⟨[b1, b1, b1, b1, b1, b0], 7, fun b => .dcDiffYS7 (BitVec.ofNat 7 (natOfBits b))⟩,
   ⟨[b1, b1, b1, b1, b1, b1, b0], 8, fun b => .dcDiffYS8 (BitVec.ofNat 8 (natOfBits b))⟩]

/-- The differential DC table of chroma blocks (42_entropy_dc.md R305, R320 to R328): size prefix, then difference bits. -/
def dcChromaRows : List Row :=
  [⟨[b0, b0], 0, fun _ => .dcDiffCS0⟩,
   ⟨[b0, b1], 1, fun b => .dcDiffCS1 (BitVec.ofNat 1 (natOfBits b))⟩,
   ⟨[b1, b0], 2, fun b => .dcDiffCS2 (BitVec.ofNat 2 (natOfBits b))⟩,
   ⟨[b1, b1, b0], 3, fun b => .dcDiffCS3 (BitVec.ofNat 3 (natOfBits b))⟩,
   ⟨[b1, b1, b1, b0], 4, fun b => .dcDiffCS4 (BitVec.ofNat 4 (natOfBits b))⟩,
   ⟨[b1, b1, b1, b1, b0], 5, fun b => .dcDiffCS5 (BitVec.ofNat 5 (natOfBits b))⟩,
   ⟨[b1, b1, b1, b1, b1, b0], 6, fun b => .dcDiffCS6 (BitVec.ofNat 6 (natOfBits b))⟩,
   ⟨[b1, b1, b1, b1, b1, b1, b0], 7, fun b => .dcDiffCS7 (BitVec.ofNat 7 (natOfBits b))⟩,
   ⟨[b1, b1, b1, b1, b1, b1, b1, b0], 8, fun b => .dcDiffCS8 (BitVec.ofNat 8 (natOfBits b))⟩]

/-- The shared DC field: any ten bits (30_encoding.md R158). -/
def dcSharedRows : List Row := [⟨[], 10, fun b => .dcShared (BitVec.ofNat 10 (natOfBits b))⟩]

/-- The codewords that may stand in a context. -/
def rowsOf : Context → List Row
  | .dcShared => dcSharedRows
  | .dcLuma => dcLumaRows
  | .dcChroma => dcChromaRows
  | .ac => acRows
  | .acTitle => [⟨[b1, b0], 0, fun _ => .acEob⟩]
  | .codeFirst | .codeLater | .command => []

/-- The codeword the upcoming bits begin with, in a context. -/
def decodeCodeword (c : Context) (w : Bits) : Match := classifyRows (rowsOf c) w

/-! ## Packed codes -/

/-- The packed code `w` by its position in the block (40_mdec_code.md R212): the first code is the DC code
whatever its bits, a later one is the end of block exactly when it is 0xFE00 (30_encoding.md R181). -/
def decodePacked (first : Bool) (w : Half) : Instr :=
  if first then .mdecDc (w.extractLsb' 10 6) (w.extractLsb' 0 10)
  else if w = 0xFE00#16 then .mdecEob
  else .mdecAc (w.extractLsb' 10 6) (w.extractLsb' 0 10)

/-! ## Host commands: a request is the command id (47_host_interface.md R658) and its operands' bytes (log 27) -/

/-- Why a request is no command of the table; the core answers REFUSED (47_host_interface.md R658, R710). -/
inductive CommandError where
  /-- No byte at all. -/
  | empty
  /-- The reserved id 0x00 or 0x09 to 0xFF. -/
  | reservedId (id : Byte)
  /-- The bytes after the id are not that command's operands. -/
  | badOperands (id : Byte)
  deriving DecidableEq, Repr

/-- A number of so many bytes, least significant first. -/
def leBytes : Nat → Nat → List Byte
  | 0, _ => []
  | n + 1, v => BitVec.ofNat 8 v :: leBytes n (v / 256)

/-- The number its bytes write, least significant first. -/
def natOfLe : List Byte → Nat
  | [] => 0
  | b :: bs => b.toNat + 256 * natOfLe bs

/-- The four bytes of an integer in two's complement. -/
def int32Bytes (v : Int) : List Byte := leBytes 4 (BitVec.ofInt 32 v).toNat

/-- The integer its four bytes write. -/
def int32Of (bs : List Byte) : Int := (BitVec.ofNat 32 (natOfLe bs)).toInt

/-- `n` integers of four bytes each, and what is left. -/
def readInts : Nat → List Byte → Option (List Int × List Byte)
  | 0, l => some ([], l)
  | n + 1, l => match splitExact 4 l with
    | none => none
    | some (bs, rest) => match readInts n rest with
      | none => none
      | some (vs, rest') => some (int32Of bs :: vs, rest')

/-- The upsampler two operand bytes name (log 27). -/
def upsamplerOf (kind name : Byte) : Option Upsampler :=
  if kind = 0#8 ∧ name = 0#8 then some .nearest
  else if kind = 1#8 ∧ name = 0#8 then some (.kernel .bilinear)
  else if kind = 2#8 then some (.kernel (.convolution name))
  else none

/-- The two operand bytes that name an upsampler (log 27). -/
def upsamplerBytes : Upsampler → List Byte
  | .nearest => [0#8, 0#8]
  | .kernel .bilinear => [1#8, 0#8]
  | .kernel (.convolution name) => [2#8, name]

/-- The bit an operand byte stands for, if it is 0 or 1. -/
def bitOfByte (b : Byte) : Option Bool :=
  if b = 0#8 then some false else if b = 1#8 then some true else none

/-- `CONFIGURE`'s operands (47_host_interface.md R650). -/
def decodeConfigure (ops : List Byte) : Option Instr :=
  match readInts 2 ops with
  | some ([width, height], [variant, merge, kind, name]) =>
    match bitOfByte variant, bitOfByte merge, upsamplerOf kind name with
    | some v, some m, some u => some (.configure width height (if v then .float else .int) m u)
    | _, _, _ => none
  | _ => none

/-- `SET_QUANT`'s operands (47_host_interface.md R651). -/
def decodeSetQuant (ops : List Byte) : Option Instr :=
  match readInts 64 ops with
  | some (table, []) => some (.setQuant table)
  | _ => none

/-- `READ_RGB`'s operands (47_host_interface.md R655). -/
def decodeReadRgb (ops : List Byte) : Option Instr :=
  match splitExact 8 ops with
  | none => none
  | some (len, ops') => match splitExact 8 ops' with
    | none => none
    | some (offset, stride) =>
      if stride.length = 8 then some (.readRgb (natOfLe len) (natOfLe offset) (natOfLe stride)) else none

/-- `READ_YCBCR420`'s operands (47_host_interface.md R656). -/
def decodeReadYcbcr420 (ops : List Byte) : Option Instr :=
  match splitExact 8 ops with
  | some (len, [space]) => match bitOfByte space with
    | some s => some (.readYcbcr420 (natOfLe len) (if s then .rec601 else .console))
    | none => none
  | _ => none

/-- A command without operands. -/
def decodeBare (i : Instr) : List Byte → Option Instr
  | [] => some i
  | _ :: _ => none

/-- The command a request's operand bytes give, by its id (47_host_interface.md R658): `none` for a reserved id. -/
def decodeOperands (id : Byte) (ops : List Byte) : Option (Option Instr) :=
  if id = 1#8 then some (decodeConfigure ops)
  else if id = 2#8 then some (decodeSetQuant ops)
  else if id = 3#8 then some (some (.loadFrame ops))
  else if id = 4#8 then some (decodeBare .readCode ops)
  else if id = 5#8 then some (decodeBare .decodeFrame ops)
  else if id = 6#8 then some (decodeReadRgb ops)
  else if id = 7#8 then some (decodeReadYcbcr420 ops)
  else if id = 8#8 then some (decodeBare .queryStatus ops)
  else none

/-- The command of a request, total on any bytes. -/
def decodeCommand : List Byte → Except CommandError Instr
  | [] => .error .empty
  | id :: ops => match decodeOperands id ops with
    | none => .error (.reservedId id)
    | some none => .error (.badOperands id)
    | some (some i) => .ok i

/-! ## The encoder -/

/-- An instruction as it is written: a codeword of the bitstream, a packed code, or a host request. -/
inductive Encoded where
  | codeword (bits : Bits)
  | packed (w : Half)
  | request (bytes : List Byte)
  deriving DecidableEq, Repr

/-- The packed word of a code (30_encoding.md R150). -/
def packWord (top6 : BitVec 6) (bottom10 : BitVec 10) : Half := top6 ++ bottom10

/-- The words of an instruction (30_encoding.md R150, R158 to R163; 47_host_interface.md R658). -/
def encode : Instr → Encoded
  | .mdecEob => .packed 0xFE00#16
  | .mdecDc q d => .packed (packWord q d)
  | .mdecAc r l => .packed (packWord r l)
  | .dcShared d => .codeword (bitsOf d)
  | .dcDiffYS0 => .codeword [b1, b0, b0]
  | .dcDiffYS1 v => .codeword ([b0, b0] ++ bitsOf v)
  | .dcDiffYS2 v => .codeword ([b0, b1] ++ bitsOf v)
  | .dcDiffYS3 v => .codeword ([b1, b0, b1] ++ bitsOf v)
  | .dcDiffYS4 v => .codeword ([b1, b1, b0] ++ bitsOf v)
  | .dcDiffYS5 v => .codeword ([b1, b1, b1, b0] ++ bitsOf v)
  | .dcDiffYS6 v => .codeword ([b1, b1, b1, b1, b0] ++ bitsOf v)
  | .dcDiffYS7 v => .codeword ([b1, b1, b1, b1, b1, b0] ++ bitsOf v)
  | .dcDiffYS8 v => .codeword ([b1, b1, b1, b1, b1, b1, b0] ++ bitsOf v)
  | .dcDiffCS0 => .codeword [b0, b0]
  | .dcDiffCS1 v => .codeword ([b0, b1] ++ bitsOf v)
  | .dcDiffCS2 v => .codeword ([b1, b0] ++ bitsOf v)
  | .dcDiffCS3 v => .codeword ([b1, b1, b0] ++ bitsOf v)
  | .dcDiffCS4 v => .codeword ([b1, b1, b1, b0] ++ bitsOf v)
  | .dcDiffCS5 v => .codeword ([b1, b1, b1, b1, b0] ++ bitsOf v)
  | .dcDiffCS6 v => .codeword ([b1, b1, b1, b1, b1, b0] ++ bitsOf v)
  | .dcDiffCS7 v => .codeword ([b1, b1, b1, b1, b1, b1, b0] ++ bitsOf v)
  | .dcDiffCS8 v => .codeword ([b1, b1, b1, b1, b1, b1, b1, b0] ++ bitsOf v)
  | .acEob => .codeword [b1, b0]
  | .acEscape r l => .codeword ([b0, b0, b0, b0, b0, b1] ++ bitsOf r ++ bitsOf l)
  | .acR0M1 neg => .codeword [b1, b1, neg]
  | .acR1M1 neg => .codeword [b0, b1, b1, neg]
  | .acR0M2 neg => .codeword [b0, b1, b0, b0, neg]
  | .acR2M1 neg => .codeword [b0, b1, b0, b1, neg]
  | .acR0M3 neg => .codeword [b0, b0, b1, b0, b1, neg]
  | .acR3M1 neg => .codeword [b0, b0, b1, b1, b1, neg]
  | .acR4M1 neg => .codeword [b0, b0, b1, b1, b0, neg]
  | .acR1M2 neg => .codeword [b0, b0, b0, b1, b1, b0, neg]
  | .acR5M1 neg => .codeword [b0, b0, b0, b1, b1, b1, neg]
  | .acR6M1 neg => .codeword [b0, b0, b0, b1, b0, b1, neg]
  | .acR7M1 neg => .codeword [b0, b0, b0, b1, b0, b0, neg]
  | .acR0M4 neg => .codeword [b0, b0, b0, b0, b1, b1, b0, neg]
  | .acR2M2 neg => .codeword [b0, b0, b0, b0, b1, b0, b0, neg]
  | .acR8M1 neg => .codeword [b0, b0, b0, b0, b1, b1, b1, neg]
  | .acR9M1 neg => .codeword [b0, b0, b0, b0, b1, b0, b1, neg]
  | .acR0M5 neg => .codeword [b0, b0, b1, b0, b0, b1, b1, b0, neg]
  | .acR0M6 neg => .codeword [b0, b0, b1, b0, b0, b0, b0, b1, neg]
  | .acR1M3 neg => .codeword [b0, b0, b1, b0, b0, b1, b0, b1, neg]
  | .acR3M2 neg => .codeword [b0, b0, b1, b0, b0, b1, b0, b0, neg]
  | .acR10M1 neg => .codeword [b0, b0, b1, b0, b0, b1, b1, b1, neg]
  | .acR11M1 neg => .codeword [b0, b0, b1, b0, b0, b0, b1, b1, neg]
  | .acR12M1 neg => .codeword [b0, b0, b1, b0, b0, b0, b1, b0, neg]
  | .acR13M1 neg => .codeword [b0, b0, b1, b0, b0, b0, b0, b0, neg]
  | .acR0M7 neg => .codeword [b0, b0, b0, b0, b0, b0, b1, b0, b1, b0, neg]
  | .acR1M4 neg => .codeword [b0, b0, b0, b0, b0, b0, b1, b1, b0, b0, neg]
  | .acR2M3 neg => .codeword [b0, b0, b0, b0, b0, b0, b1, b0, b1, b1, neg]
  | .acR4M2 neg => .codeword [b0, b0, b0, b0, b0, b0, b1, b1, b1, b1, neg]
  | .acR5M2 neg => .codeword [b0, b0, b0, b0, b0, b0, b1, b0, b0, b1, neg]
  | .acR14M1 neg => .codeword [b0, b0, b0, b0, b0, b0, b1, b1, b1, b0, neg]
  | .acR15M1 neg => .codeword [b0, b0, b0, b0, b0, b0, b1, b1, b0, b1, neg]
  | .acR16M1 neg => .codeword [b0, b0, b0, b0, b0, b0, b1, b0, b0, b0, neg]
  | .acR0M8 neg => .codeword [b0, b0, b0, b0, b0, b0, b0, b1, b1, b1, b0, b1, neg]
  | .acR0M9 neg => .codeword [b0, b0, b0, b0, b0, b0, b0, b1, b1, b0, b0, b0, neg]
  | .acR0M10 neg => .codeword [b0, b0, b0, b0, b0, b0, b0, b1, b0, b0, b1, b1, neg]
  | .acR0M11 neg => .codeword [b0, b0, b0, b0, b0, b0, b0, b1, b0, b0, b0, b0, neg]
  | .acR1M5 neg => .codeword [b0, b0, b0, b0, b0, b0, b0, b1, b1, b0, b1, b1, neg]
  | .acR2M4 neg => .codeword [b0, b0, b0, b0, b0, b0, b0, b1, b0, b1, b0, b0, neg]
  | .acR3M3 neg => .codeword [b0, b0, b0, b0, b0, b0, b0, b1, b1, b1, b0, b0, neg]
  | .acR4M3 neg => .codeword [b0, b0, b0, b0, b0, b0, b0, b1, b0, b0, b1, b0, neg]
  | .acR6M2 neg => .codeword [b0, b0, b0, b0, b0, b0, b0, b1, b1, b1, b1, b0, neg]
  | .acR7M2 neg => .codeword [b0, b0, b0, b0, b0, b0, b0, b1, b0, b1, b0, b1, neg]
  | .acR8M2 neg => .codeword [b0, b0, b0, b0, b0, b0, b0, b1, b0, b0, b0, b1, neg]
  | .acR17M1 neg => .codeword [b0, b0, b0, b0, b0, b0, b0, b1, b1, b1, b1, b1, neg]
  | .acR18M1 neg => .codeword [b0, b0, b0, b0, b0, b0, b0, b1, b1, b0, b1, b0, neg]
  | .acR19M1 neg => .codeword [b0, b0, b0, b0, b0, b0, b0, b1, b1, b0, b0, b1, neg]
  | .acR20M1 neg => .codeword [b0, b0, b0, b0, b0, b0, b0, b1, b0, b1, b1, b1, neg]
  | .acR21M1 neg => .codeword [b0, b0, b0, b0, b0, b0, b0, b1, b0, b1, b1, b0, neg]
  | .acR0M12 neg => .codeword [b0, b0, b0, b0, b0, b0, b0, b0, b1, b1, b0, b1, b0, neg]
  | .acR0M13 neg => .codeword [b0, b0, b0, b0, b0, b0, b0, b0, b1, b1, b0, b0, b1, neg]
  | .acR0M14 neg => .codeword [b0, b0, b0, b0, b0, b0, b0, b0, b1, b1, b0, b0, b0, neg]
  | .acR0M15 neg => .codeword [b0, b0, b0, b0, b0, b0, b0, b0, b1, b0, b1, b1, b1, neg]
  | .acR1M6 neg => .codeword [b0, b0, b0, b0, b0, b0, b0, b0, b1, b0, b1, b1, b0, neg]
  | .acR1M7 neg => .codeword [b0, b0, b0, b0, b0, b0, b0, b0, b1, b0, b1, b0, b1, neg]
  | .acR2M5 neg => .codeword [b0, b0, b0, b0, b0, b0, b0, b0, b1, b0, b1, b0, b0, neg]
  | .acR3M4 neg => .codeword [b0, b0, b0, b0, b0, b0, b0, b0, b1, b0, b0, b1, b1, neg]
  | .acR5M3 neg => .codeword [b0, b0, b0, b0, b0, b0, b0, b0, b1, b0, b0, b1, b0, neg]
  | .acR9M2 neg => .codeword [b0, b0, b0, b0, b0, b0, b0, b0, b1, b0, b0, b0, b1, neg]
  | .acR10M2 neg => .codeword [b0, b0, b0, b0, b0, b0, b0, b0, b1, b0, b0, b0, b0, neg]
  | .acR22M1 neg => .codeword [b0, b0, b0, b0, b0, b0, b0, b0, b1, b1, b1, b1, b1, neg]
  | .acR23M1 neg => .codeword [b0, b0, b0, b0, b0, b0, b0, b0, b1, b1, b1, b1, b0, neg]
  | .acR24M1 neg => .codeword [b0, b0, b0, b0, b0, b0, b0, b0, b1, b1, b1, b0, b1, neg]
  | .acR25M1 neg => .codeword [b0, b0, b0, b0, b0, b0, b0, b0, b1, b1, b1, b0, b0, neg]
  | .acR26M1 neg => .codeword [b0, b0, b0, b0, b0, b0, b0, b0, b1, b1, b0, b1, b1, neg]
  | .acR0M16 neg => .codeword [b0, b0, b0, b0, b0, b0, b0, b0, b0, b1, b1, b1, b1, b1, neg]
  | .acR0M17 neg => .codeword [b0, b0, b0, b0, b0, b0, b0, b0, b0, b1, b1, b1, b1, b0, neg]
  | .acR0M18 neg => .codeword [b0, b0, b0, b0, b0, b0, b0, b0, b0, b1, b1, b1, b0, b1, neg]
  | .acR0M19 neg => .codeword [b0, b0, b0, b0, b0, b0, b0, b0, b0, b1, b1, b1, b0, b0, neg]
  | .acR0M20 neg => .codeword [b0, b0, b0, b0, b0, b0, b0, b0, b0, b1, b1, b0, b1, b1, neg]
  | .acR0M21 neg => .codeword [b0, b0, b0, b0, b0, b0, b0, b0, b0, b1, b1, b0, b1, b0, neg]
  | .acR0M22 neg => .codeword [b0, b0, b0, b0, b0, b0, b0, b0, b0, b1, b1, b0, b0, b1, neg]
  | .acR0M23 neg => .codeword [b0, b0, b0, b0, b0, b0, b0, b0, b0, b1, b1, b0, b0, b0, neg]
  | .acR0M24 neg => .codeword [b0, b0, b0, b0, b0, b0, b0, b0, b0, b1, b0, b1, b1, b1, neg]
  | .acR0M25 neg => .codeword [b0, b0, b0, b0, b0, b0, b0, b0, b0, b1, b0, b1, b1, b0, neg]
  | .acR0M26 neg => .codeword [b0, b0, b0, b0, b0, b0, b0, b0, b0, b1, b0, b1, b0, b1, neg]
  | .acR0M27 neg => .codeword [b0, b0, b0, b0, b0, b0, b0, b0, b0, b1, b0, b1, b0, b0, neg]
  | .acR0M28 neg => .codeword [b0, b0, b0, b0, b0, b0, b0, b0, b0, b1, b0, b0, b1, b1, neg]
  | .acR0M29 neg => .codeword [b0, b0, b0, b0, b0, b0, b0, b0, b0, b1, b0, b0, b1, b0, neg]
  | .acR0M30 neg => .codeword [b0, b0, b0, b0, b0, b0, b0, b0, b0, b1, b0, b0, b0, b1, neg]
  | .acR0M31 neg => .codeword [b0, b0, b0, b0, b0, b0, b0, b0, b0, b1, b0, b0, b0, b0, neg]
  | .acR0M32 neg => .codeword [b0, b0, b0, b0, b0, b0, b0, b0, b0, b0, b1, b1, b0, b0, b0, neg]
  | .acR0M33 neg => .codeword [b0, b0, b0, b0, b0, b0, b0, b0, b0, b0, b1, b0, b1, b1, b1, neg]
  | .acR0M34 neg => .codeword [b0, b0, b0, b0, b0, b0, b0, b0, b0, b0, b1, b0, b1, b1, b0, neg]
  | .acR0M35 neg => .codeword [b0, b0, b0, b0, b0, b0, b0, b0, b0, b0, b1, b0, b1, b0, b1, neg]
  | .acR0M36 neg => .codeword [b0, b0, b0, b0, b0, b0, b0, b0, b0, b0, b1, b0, b1, b0, b0, neg]
  | .acR0M37 neg => .codeword [b0, b0, b0, b0, b0, b0, b0, b0, b0, b0, b1, b0, b0, b1, b1, neg]
  | .acR0M38 neg => .codeword [b0, b0, b0, b0, b0, b0, b0, b0, b0, b0, b1, b0, b0, b1, b0, neg]
  | .acR0M39 neg => .codeword [b0, b0, b0, b0, b0, b0, b0, b0, b0, b0, b1, b0, b0, b0, b1, neg]
  | .acR0M40 neg => .codeword [b0, b0, b0, b0, b0, b0, b0, b0, b0, b0, b1, b0, b0, b0, b0, neg]
  | .acR1M8 neg => .codeword [b0, b0, b0, b0, b0, b0, b0, b0, b0, b0, b1, b1, b1, b1, b1, neg]
  | .acR1M9 neg => .codeword [b0, b0, b0, b0, b0, b0, b0, b0, b0, b0, b1, b1, b1, b1, b0, neg]
  | .acR1M10 neg => .codeword [b0, b0, b0, b0, b0, b0, b0, b0, b0, b0, b1, b1, b1, b0, b1, neg]
  | .acR1M11 neg => .codeword [b0, b0, b0, b0, b0, b0, b0, b0, b0, b0, b1, b1, b1, b0, b0, neg]
  | .acR1M12 neg => .codeword [b0, b0, b0, b0, b0, b0, b0, b0, b0, b0, b1, b1, b0, b1, b1, neg]
  | .acR1M13 neg => .codeword [b0, b0, b0, b0, b0, b0, b0, b0, b0, b0, b1, b1, b0, b1, b0, neg]
  | .acR1M14 neg => .codeword [b0, b0, b0, b0, b0, b0, b0, b0, b0, b0, b1, b1, b0, b0, b1, neg]
  | .acR1M15 neg => .codeword [b0, b0, b0, b0, b0, b0, b0, b0, b0, b0, b0, b1, b0, b0, b1, b1, neg]
  | .acR1M16 neg => .codeword [b0, b0, b0, b0, b0, b0, b0, b0, b0, b0, b0, b1, b0, b0, b1, b0, neg]
  | .acR1M17 neg => .codeword [b0, b0, b0, b0, b0, b0, b0, b0, b0, b0, b0, b1, b0, b0, b0, b1, neg]
  | .acR1M18 neg => .codeword [b0, b0, b0, b0, b0, b0, b0, b0, b0, b0, b0, b1, b0, b0, b0, b0, neg]
  | .acR6M3 neg => .codeword [b0, b0, b0, b0, b0, b0, b0, b0, b0, b0, b0, b1, b0, b1, b0, b0, neg]
  | .acR11M2 neg => .codeword [b0, b0, b0, b0, b0, b0, b0, b0, b0, b0, b0, b1, b1, b0, b1, b0, neg]
  | .acR12M2 neg => .codeword [b0, b0, b0, b0, b0, b0, b0, b0, b0, b0, b0, b1, b1, b0, b0, b1, neg]
  | .acR13M2 neg => .codeword [b0, b0, b0, b0, b0, b0, b0, b0, b0, b0, b0, b1, b1, b0, b0, b0, neg]
  | .acR14M2 neg => .codeword [b0, b0, b0, b0, b0, b0, b0, b0, b0, b0, b0, b1, b0, b1, b1, b1, neg]
  | .acR15M2 neg => .codeword [b0, b0, b0, b0, b0, b0, b0, b0, b0, b0, b0, b1, b0, b1, b1, b0, neg]
  | .acR16M2 neg => .codeword [b0, b0, b0, b0, b0, b0, b0, b0, b0, b0, b0, b1, b0, b1, b0, b1, neg]
  | .acR27M1 neg => .codeword [b0, b0, b0, b0, b0, b0, b0, b0, b0, b0, b0, b1, b1, b1, b1, b1, neg]
  | .acR28M1 neg => .codeword [b0, b0, b0, b0, b0, b0, b0, b0, b0, b0, b0, b1, b1, b1, b1, b0, neg]
  | .acR29M1 neg => .codeword [b0, b0, b0, b0, b0, b0, b0, b0, b0, b0, b0, b1, b1, b1, b0, b1, neg]
  | .acR30M1 neg => .codeword [b0, b0, b0, b0, b0, b0, b0, b0, b0, b0, b0, b1, b1, b1, b0, b0, neg]
  | .acR31M1 neg => .codeword [b0, b0, b0, b0, b0, b0, b0, b0, b0, b0, b0, b1, b1, b0, b1, b1, neg]
  | .configure width height variant merge ups =>
    .request (1#8 :: (int32Bytes width ++ (int32Bytes height ++
      ((if variant = .float then 1#8 else 0#8) :: (if merge then 1#8 else 0#8) :: upsamplerBytes ups))))
  | .setQuant table => .request (2#8 :: table.flatMap int32Bytes)
  | .loadFrame bytes => .request (3#8 :: bytes)
  | .readCode => .request [4#8]
  | .decodeFrame => .request [5#8]
  | .readRgb len offset stride => .request (6#8 :: (leBytes 8 len ++ (leBytes 8 offset ++ leBytes 8 stride)))
  | .readYcbcr420 len space => .request (7#8 :: (leBytes 8 len ++ [if space = .rec601 then 1#8 else 0#8]))
  | .queryStatus => .request [8#8]

/-- The context an instruction is read in. -/
def contextOf : Instr → Context
  | .mdecDc _ _ => .codeFirst
  | .mdecAc _ _ | .mdecEob => .codeLater
  | .dcShared _ => .dcShared
  | .dcDiffYS0 | .dcDiffYS1 _ | .dcDiffYS2 _ | .dcDiffYS3 _ | .dcDiffYS4 _ | .dcDiffYS5 _ | .dcDiffYS6 _
  | .dcDiffYS7 _ | .dcDiffYS8 _ => .dcLuma
  | .dcDiffCS0 | .dcDiffCS1 _ | .dcDiffCS2 _ | .dcDiffCS3 _ | .dcDiffCS4 _ | .dcDiffCS5 _ | .dcDiffCS6 _
  | .dcDiffCS7 _ | .dcDiffCS8 _ => .dcChroma
  | .acEob | .acEscape _ _ | .acR0M1 _ | .acR1M1 _ | .acR0M2 _ | .acR2M1 _ | .acR0M3 _ | .acR3M1 _ | .acR4M1 _
  | .acR1M2 _ | .acR5M1 _ | .acR6M1 _ | .acR7M1 _ | .acR0M4 _ | .acR2M2 _ | .acR8M1 _ | .acR9M1 _ | .acR0M5 _
  | .acR0M6 _ | .acR1M3 _ | .acR3M2 _ | .acR10M1 _ | .acR11M1 _ | .acR12M1 _ | .acR13M1 _ | .acR0M7 _
  | .acR1M4 _ | .acR2M3 _ | .acR4M2 _ | .acR5M2 _ | .acR14M1 _ | .acR15M1 _ | .acR16M1 _ | .acR0M8 _
  | .acR0M9 _ | .acR0M10 _ | .acR0M11 _ | .acR1M5 _ | .acR2M4 _ | .acR3M3 _ | .acR4M3 _ | .acR6M2 _ | .acR7M2 _
  | .acR8M2 _ | .acR17M1 _ | .acR18M1 _ | .acR19M1 _ | .acR20M1 _ | .acR21M1 _ | .acR0M12 _ | .acR0M13 _
  | .acR0M14 _ | .acR0M15 _ | .acR1M6 _ | .acR1M7 _ | .acR2M5 _ | .acR3M4 _ | .acR5M3 _ | .acR9M2 _
  | .acR10M2 _ | .acR22M1 _ | .acR23M1 _ | .acR24M1 _ | .acR25M1 _ | .acR26M1 _ | .acR0M16 _ | .acR0M17 _
  | .acR0M18 _ | .acR0M19 _ | .acR0M20 _ | .acR0M21 _ | .acR0M22 _ | .acR0M23 _ | .acR0M24 _ | .acR0M25 _
  | .acR0M26 _ | .acR0M27 _ | .acR0M28 _ | .acR0M29 _ | .acR0M30 _ | .acR0M31 _ | .acR0M32 _ | .acR0M33 _
  | .acR0M34 _ | .acR0M35 _ | .acR0M36 _ | .acR0M37 _ | .acR0M38 _ | .acR0M39 _ | .acR0M40 _ | .acR1M8 _
  | .acR1M9 _ | .acR1M10 _ | .acR1M11 _ | .acR1M12 _ | .acR1M13 _ | .acR1M14 _ | .acR1M15 _ | .acR1M16 _
  | .acR1M17 _ | .acR1M18 _ | .acR6M3 _ | .acR11M2 _ | .acR12M2 _ | .acR13M2 _ | .acR14M2 _ | .acR15M2 _
  | .acR16M2 _ | .acR27M1 _ | .acR28M1 _ | .acR29M1 _ | .acR30M1 _ | .acR31M1 _ => .ac
  | .configure _ _ _ _ _ | .setQuant _ | .loadFrame _ | .readCode | .decodeFrame | .readRgb _ _ _
  | .readYcbcr420 _ _ | .queryStatus => .command

/-- The instruction written as `e`, read in a context: the whole of it and nothing after it. -/
def decode (c : Context) : Encoded → Option Instr
  | .codeword w => match decodeCodeword c w with
    | .found i len => if len = w.length then some i else none
    | _ => none
  | .packed w => match c with
    | .codeFirst => some (decodePacked true w)
    | .codeLater => some (decodePacked false w)
    | .dcShared | .dcLuma | .dcChroma | .ac | .acTitle | .command => none
  | .request bytes => match c with
    | .command => (decodeCommand bytes).toOption
    | .dcShared | .dcLuma | .dcChroma | .ac | .acTitle | .codeFirst | .codeLater => none

/-! ## The words of spec/opcode_table.json (log 19) -/

/-- How many operand bytes a command of this id has, the frame's own bytes apart. -/
def operandBytes (id : Byte) : Nat :=
  if id = 1#8 then 12 else if id = 2#8 then 256 else if id = 6#8 then 24 else if id = 7#8 then 9 else 0

/-- The request of a table row of the host's commands: its id, then operand bytes of zero. -/
def tableRequest (w : Nat) : List Byte :=
  BitVec.ofNat 8 w :: List.replicate (operandBytes (BitVec.ofNat 8 w)) 0#8

/-- The bits of a table row of the bitstream: left-justified, zeros after them up to the longest codeword. -/
def tableBits (nbits w : Nat) : Bits := bitsOfNat nbits w ++ List.replicate 22 false

/-- The codeword the bits begin with in a context; with `exact`, only if every bit after it is 0. -/
def tableCodewordIn (exact : Bool) (w : Bits) (c : Context) : Option Instr :=
  match decodeCodeword c w with
  | .found i len => if exact && (w.drop len).any id then none else some i
  | _ => none

/-- The contexts a table word is tried in: the table gives a codeword no context (log 19). -/
def tableContexts : List Context := [.ac, .dcLuma, .dcChroma, .dcShared]

/-- The codeword of a table row: the one that is these bits and zeros after them, else the one they begin with. -/
def decodeTableCodeword (w : Bits) : Option Instr :=
  match tableContexts.findSome? (tableCodewordIn true w) with
  | some i => some i
  | none => tableContexts.findSome? (tableCodewordIn false w)

/-- The instruction the decoder reads from a word of spec/opcode_table.json: a command id of 8 bits, a packed
code of 16, a left-justified codeword of more. -/
def decodeTableWord (nbits w : Nat) : Option Instr :=
  if nbits ≤ 8 then (decodeCommand (tableRequest w)).toOption
  else if nbits ≤ 16 then some (decodePacked (BitVec.ofNat 16 w != 0xFE00#16) (BitVec.ofNat 16 w))
  else decodeTableCodeword (tableBits nbits w)

end Sys2Proof
end

