-- ==== Sys2Proof/Config.lean ====
section
/-! DEFINITION. What an implementation fixes and the spec does not: the parameters of 00_scope.md R7 that are plain
data (`Params`, a field of State that no operation writes, log 5) and the functions no source gives, as free values:
opaque constants of which nothing can be computed or proved (93_implementation_defined.md, section 2). -/

namespace Sys2Proof

/-- The title-specific formats, named but not described by the source (00_scope.md R4). -/
inductive TitleName where
  | legacy16
  | qsplit
  | reversed
  deriving DecidableEq, Repr, Inhabited

/-- `FMT`, the recognised frame format (00_scope.md R4, 10_state.md R58). -/
inductive Fmt where
  | strShared
  | strDiff
  | prefix40
  | title (t : TitleName)
  deriving DecidableEq, Repr, Inhabited

/-- `HDR.DCMODE` (10_state.md R59). -/
inductive DcMode where
  | shared
  | diff
  deriving DecidableEq, Repr, Inhabited

/-- `HDR.ACTABLE` (10_state.md R59). -/
inductive AcTable where
  | main
  | title
  deriving DecidableEq, Repr, Inhabited

/-- The causes of a ReadCorruption, in the order of their numbers 1 to 10 (60_exceptions.md R702). -/
inductive Cause where
  | unrecognizedHeader
  | zeroQscale
  | qscaleRange
  | badVersion
  | unmatchedVlc
  | unmatchedDc
  | dcRange
  | zeroEscape
  | runOverflow
  | runOutOfBounds
  deriving DecidableEq, Repr, Inhabited

/-- A pixel of the RGB output (20_memory.md R121). -/
structure Pixel where
  r : Byte
  g : Byte
  b : Byte
  deriving DecidableEq, Repr, Inhabited

/-- The chroma of a luma position (46_color.md R601). -/
structure Chroma where
  cb : Sample
  cr : Sample
  deriving DecidableEq, Repr, Inhabited

/-- What a kernel other than NEAREST works on (46_color.md R602): the variant and the two chroma planes, row-major. -/
structure ChromaPlanes where
  variant : Variant
  columns : Nat
  rows : Nat
  cb : List Sample
  cr : List Sample
  deriving DecidableEq, Repr, Inhabited

/-- The channels of a pixel. -/
inductive Channel where
  | red
  | green
  | blue
  deriving DecidableEq, Repr, Inhabited

/-- A row of a supplied VLC table (43_entropy_ac.md R370): the code without its sign bit, the run and the magnitude.
A magnitude of 0 is allowed and gives a degenerate code: DESIGN CHOICE (log 24). -/
structure VlcEntry where
  code : Bits
  run : BitVec 6
  magnitude : BitVec 9
  deriving DecidableEq, Repr, Inhabited

/-- A row of a supplied differential DC table (42_entropy_dc.md R303, R305): a whole codeword and its delta. -/
structure DcEntry where
  code : Bits
  delta : Int
  deriving DecidableEq, Repr, Inhabited

/-- A row of a title's VLC table whose signs follow a rule of its own: a whole codeword and what it stands for
(43_entropy_ac.md R370).  A level of 0 is allowed and gives a degenerate code: DESIGN CHOICE (log 24). -/
structure VlcCodeword where
  code : Bits
  run : BitVec 6
  level : BitVec 10
  deriving DecidableEq, Repr, Inhabited

/-- A title's VLC table (43_entropy_ac.md R370): with the sign bit of R366, or with the entry's own sign rule, whatever it
is, written out as whole codewords with signed levels (log 11). -/
inductive TitleVlc where
  | signBit (rows : List VlcEntry)
  | ownSigns (rows : List VlcCodeword)
  deriving DecidableEq, Repr, Inhabited

/-- A title format's DC codewords (42_entropy_dc.md R307; 92_eei_decisions.md D38): by default those of the shared scheme.
An entry may instead leave the scheme to its parser, which writes `HDR.DCMODE` (10_state.md R59), with the codewords of that
scheme or with codewords of its own, `Config.titleDc` and `Config.titleDcDelta` (log 23). -/
inductive TitleDcScheme where
  | shared
  | parsed
  | own
  deriving DecidableEq, Repr

/-- An entry of `TITLE_FORMATS` (41_entropy_header.md R256), the part of it that is plain data; its match predicate,
its parser and its escape decoder are `Config.titleMatch`, `Config.titleParse` and `Config.titleEscape` (log 11). -/
structure TitleFormat where
  name : TitleName
  markerRequired : Bool
  bigEndianUnits : Bool
  acTable : AcTable
  vlc : TitleVlc
  /-- 42_entropy_dc.md R307: "By default every title format uses the shared scheme". -/
  dc : TitleDcScheme := .shared
  deriving DecidableEq, Repr

/-- What `T.parse` writes into `HDR` (41_entropy_header.md R256), but for `HDR.ACTABLE`, which the entry gives; a qscale is
1 more than the number here, so that it lies in 1..63 (10_state.md R59).  The marker is the one `HDR.MARKER` holds where none
is required, the scheme the one `HDR.DCMODE` holds where the entry does not keep to the default (42_entropy_dc.md R307). -/
structure TitleHeader where
  rlcCount : Half
  marker : Half
  qscaleL : Fin 63
  qscaleC : Fin 63
  version : Half
  dcMode : DcMode
  body : Nat
  deriving DecidableEq, Repr, Inhabited

/-- An error of `T.parse`: one of the causes of 41_entropy_header.md R255, with the value that 60_exceptions.md R702
records for it; a qscale out of range is 64 more than the number here (64..65535). -/
inductive TitleError where
  | zeroQscale
  | qscaleRange (q : Fin 65472)
  | badVersion (v : Half)
  deriving DecidableEq, Repr, Inhabited

/-- The cause of an error of `T.parse` (60_exceptions.md R702). -/
def TitleError.cause : TitleError → Cause
  | .zeroQscale => .zeroQscale
  | .qscaleRange _ => .qscaleRange
  | .badVersion _ => .badVersion

/-- The value an error of `T.parse` records (60_exceptions.md R702). -/
def TitleError.value : TitleError → Nat
  | .zeroQscale => 0
  | .qscaleRange q => q.val + 64
  | .badVersion v => v.toNat

/-- The result of `T.parse` (41_entropy_header.md R256). -/
inductive TitleParse where
  | ok (h : TitleHeader)
  | corrupt (e : TitleError)
  deriving DecidableEq, Repr, Inhabited

/-- The result of `T.escape` on the bits after the run (43_entropy_ac.md R365): the bits it takes and the level, or an
error, of a cause of 60_exceptions.md R702 that an escape can have; the core records the value of that cause, the
available bits or the run.  The bits are one more than the number here, so that they are the 1..22 of one `Take`
(20_memory.md R111): R365 gives no bound, and this one is the model's DESIGN CHOICE (log 11). -/
inductive TitleEscape where
  | level (bits : Fin 22) (l : BitVec 10)
  | zeroEscape (bits : Fin 22)
  | endOfStream
  | unmatchedVlc
  deriving DecidableEq, Repr, Inhabited

/-- The result of a title's own DC codeword (42_entropy_dc.md R307): its bits, which are one more than the number here,
with what it stands for, or an error, of which the core records the available bits (60_exceptions.md R702). -/
inductive TitleDcResult (α : Type) where
  | code (bits : Fin 22) (value : α)
  | endOfStream
  | unmatchedDc
  deriving DecidableEq, Repr, Inhabited

/-- Which `CONSOLE_TO_RGB` the implementation has: the default of 46_color.md R610, or one of its own. -/
inductive RgbConversion where
  | default
  | supplied
  deriving DecidableEq, Repr, Inhabited

/-- Which `IDCT_FLOAT` and `IDCT1_FLOAT` the implementation has: the default of 45_reconstruction.md R566, or its own. -/
inductive FloatIdct where
  | default
  | supplied
  deriving DecidableEq, Repr, Inhabited

/-- The parameters of 00_scope.md R7 that are plain data.  The defaults are `Machine.defaultParams`. -/
structure Params where
  /-- `MAX_DIM` (D33). -/
  maxDim : Half
  /-- `ZERO_AC_TOLERANT` (43_entropy_ac.md R363). -/
  zeroAcTolerant : List Fmt
  /-- `EXTRA_SHARED_VERSIONS` (41_entropy_header.md R255). -/
  extraSharedVersions : List Half
  /-- `TITLE_FORMATS` (41_entropy_header.md R256). -/
  titleFormats : List TitleFormat
  /-- `AC_VLC_TABLE`: none for the default table of 30_encoding.md R163, whose rows are instructions. -/
  acVlcTable : Option (List VlcEntry)
  /-- `DC_DIFF_TABLE_LUMA`: none for the default of 42_entropy_dc.md R305, whose rows are instructions. -/
  dcDiffTableLuma : Option (List DcEntry)
  /-- `DC_DIFF_TABLE_CHROMA`: none for the default of 42_entropy_dc.md R305. -/
  dcDiffTableChroma : Option (List DcEntry)
  /-- `ZIGZAG` (45_reconstruction.md R552). -/
  zigzag : Vector (Fin 64) 64
  /-- `QUANT_DEFAULT` (45_reconstruction.md R554). -/
  quantDefault : Vector Byte 64
  /-- The kernels the `UPSAMPLER` parameter defines beside NEAREST (46_color.md R602). -/
  kernels : List Kernel
  /-- `CONSOLE_TO_RGB` (46_color.md R610). -/
  rgbConversion : RgbConversion
  /-- `IDCT_FLOAT` and `IDCT1_FLOAT` (45_reconstruction.md R566). -/
  floatIdct : FloatIdct
  deriving DecidableEq, Repr

namespace Config

/-- `IDCT_INT` (45_reconstruction.md R567): the samples of the 64 integer coefficients, by index `8 * y + x` (log 6). -/
opaque idctInt : List Int → Fin 64 → Int

/-- `IDCT1_INT` (45_reconstruction.md R567): the samples of the one coefficient at a matrix index (log 6). -/
opaque idct1Int : Fin 64 → Int → Fin 64 → Int

/-- The binary64 result of `IDCT_FLOAT` (45_reconstruction.md R565, R566), whose last bits are in no source (log 7). -/
opaque idctFloat : List Double → Fin 64 → Double

/-- A supplied `IDCT1_FLOAT` (45_reconstruction.md R565; log 7). -/
opaque idct1Float : Fin 64 → Double → Fin 64 → Double

/-- A kernel other than NEAREST (46_color.md R602): of its planes, the chroma at the luma column and row (log 9). -/
opaque upsample : Kernel → ChromaPlanes → Nat → Nat → Chroma

/-- `REC601_CONVERT` (46_color.md R616): from the size and the cropped planes Y, Cb, Cr one after another, the sample
at an index of the output (log 10). -/
opaque rec601 : Variant → Nat → Nat → List Sample → Nat → Sample

/-- A supplied `CONSOLE_TO_RGB` (46_color.md R610, 93_implementation_defined.md G15), of Y, Cb, Cr (log 8). -/
opaque consoleToRgb : Sample → Sample → Sample → Pixel

/-- The channel of a triple (Y, Cb, Cr) whose conversion is not a number: no rule states it (log 8). -/
opaque nanChannel : Sample → Sample → Sample → Channel → Byte

/-- `T.match` (41_entropy_header.md R256), of the format, whether its marker is required, the first 50 bytes and
the length (log 11). -/
opaque titleMatch : TitleName → Bool → List Byte → Nat → Bool

/-- `T.parse` (41_entropy_header.md R256; log 11). -/
opaque titleParse : TitleName → List Byte → TitleParse

/-- `T.escape` (43_entropy_ac.md R365), of the upcoming bits after the prefix and the run (log 11). -/
opaque titleEscape : TitleName → Bits → TitleEscape

/-- A title's own DC codeword where `HDR.DCMODE` is SHARED (42_entropy_dc.md R307), of whether the block is luma and the
upcoming bits: it stands for the DC itself (log 23). -/
opaque titleDc : TitleName → Bool → Bits → TitleDcResult (BitVec 10)

/-- A title's own DC codeword where `HDR.DCMODE` is DIFF (42_entropy_dc.md R307), of whether the block is luma and the
upcoming bits: it stands for a delta of the predictor (R303; log 23). -/
opaque titleDcDelta : TitleName → Bool → Bits → TitleDcResult Int

end Config

end Sys2Proof
end

