-- ==== Sys2Proof/Machine/Float64.lean ====
section
/-! DEFINITION. IEEE 754 binary64 on its bits, rounding to nearest even (00_scope.md R11): as much of it as the FLOAT
variant (45_reconstruction.md R557, R561) and the colour conversion (46_color.md R610) need.  A finite value is an
integer number of units of `2 ^ -1074`, so that sums and products are exact before they are rounded. -/

namespace Sys2Proof.Machine

/-- What the bits of a binary64 stand for: a finite value is `units * 2 ^ -1074` with its sign. -/
inductive DoubleClass where
  | nan
  | infinite (neg : Bool)
  | finite (neg : Bool) (units : Nat)
  deriving DecidableEq, Repr

/-- The sign bit. -/
def doubleSign (d : Double) : Bool := d.getLsbD 63

/-- The class of a binary64: exponent field 2047 is infinity or not a number, 0 is subnormal. -/
def classOfDouble (d : Double) : DoubleClass :=
  let exponent := (d.extractLsb' 52 11).toNat
  let fraction := (d.extractLsb' 0 52).toNat
  if exponent = 2047 then
    if fraction = 0 then .infinite (doubleSign d) else .nan
  else if exponent = 0 then .finite (doubleSign d) fraction
  else .finite (doubleSign d) ((2 ^ 52 + fraction) <<< (exponent - 1))

/-- The canonical quiet NaN. -/
def doubleNan : Double := 0x7FF8000000000000#64

/-- The bits with a sign put on the magnitude's bits. -/
def withSign (neg : Bool) (magnitude : Nat) : Double :=
  BitVec.ofNat 64 (magnitude + if neg then 2 ^ 63 else 0)

/-- Infinity of a sign. -/
def doubleInfinity (neg : Bool) : Double := withSign neg (2047 <<< 52)

/-- `m / 2 ^ k` cut to `s` bits less, to nearest, ties to even. -/
def roundShift (m s : Nat) : Nat :=
  if s = 0 then m
  else
    let q := m >>> s
    let r := m % 2 ^ s
    let half := 2 ^ (s - 1)
    if r > half ∨ (r = half ∧ q % 2 = 1) then q + 1 else q

/-- The binary64 nearest to `m / 2 ^ k`, ties to even, with a sign (00_scope.md R11). -/
def roundDouble (neg : Bool) (m k : Nat) : Double :=
  if m = 0 then withSign neg 0
  else
    -- the weight of the result's last place is 2 ^ (s - k)
    let s : Int := max ((Nat.log2 m : Int) - 52) ((k : Int) - 1074)
    let q := if 0 ≤ s then roundShift m s.toNat else m <<< (-s).toNat
    let bits := if q < 2 ^ 52 then q else ((s - k + 1075).toNat <<< 52) + (q - 2 ^ 52)
    if bits < 2047 <<< 52 then withSign neg bits else doubleInfinity neg

/-- The binary64 nearest to `n / 2 ^ k`. -/
def doubleOfScaled (n : Int) (k : Nat) : Double := roundDouble (decide (n < 0)) n.natAbs k

/-- The binary64 nearest to an integer. -/
def doubleOfInt (n : Int) : Double := doubleOfScaled n 0

/-- The signed number of units of a finite value. -/
def signedUnits (neg : Bool) (units : Nat) : Int := if neg then -(units : Int) else units

/-- Negation: the sign bit flipped. -/
def doubleNeg (a : Double) : Double := a ^^^ 0x8000000000000000#64

/-- Addition, to nearest even.  An exact zero sum of unlike signs is `+0`. -/
def doubleAdd (a b : Double) : Double :=
  match classOfDouble a, classOfDouble b with
  | .nan, _ => doubleNan
  | _, .nan => doubleNan
  | .infinite n, .infinite m => if n = m then doubleInfinity n else doubleNan
  | .infinite n, .finite _ _ => doubleInfinity n
  | .finite _ _, .infinite m => doubleInfinity m
  | .finite n u, .finite m v =>
    let sum := signedUnits n u + signedUnits m v
    if sum = 0 then withSign (n && m) 0 else doubleOfScaled sum 1074

/-- Subtraction. -/
def doubleSub (a b : Double) : Double := doubleAdd a (doubleNeg b)

/-- Multiplication, to nearest even. -/
def doubleMul (a b : Double) : Double :=
  match classOfDouble a, classOfDouble b with
  | .nan, _ => doubleNan
  | _, .nan => doubleNan
  | .infinite n, .infinite m => doubleInfinity (n != m)
  | .infinite n, .finite m v => if v = 0 then doubleNan else doubleInfinity (n != m)
  | .finite n u, .infinite m => if u = 0 then doubleNan else doubleInfinity (n != m)
  | .finite n u, .finite m v => roundDouble (n != m) (u * v) 2148

/-- The floor of a finite value. -/
def floorUnits (neg : Bool) (units : Nat) : Int := signedUnits neg units / (2 ^ 1074 : Nat)

end Sys2Proof.Machine
end

