-- ==== Sys2Proof/Machine/Tables.lean ====
section
/-! DEFINITION. The default tables of the reconstruction engine and the default parameters (00_scope.md R7). -/

namespace Sys2Proof.Machine

/-- `ZIGZAG` (45_reconstruction.md R552): the matrix index `8 * row + col` of a vector position. -/
def zigzagDefault : Vector (Fin 64) 64 :=
  #v[0, 1, 8, 16, 9, 2, 3, 10,
     17, 24, 32, 25, 18, 11, 4, 5,
     12, 19, 26, 33, 40, 48, 41, 34,
     27, 20, 13, 6, 7, 14, 21, 28,
     35, 42, 49, 56, 57, 50, 43, 36,
     29, 22, 15, 23, 30, 37, 44, 51,
     58, 59, 52, 45, 38, 31, 39, 46,
     53, 60, 61, 54, 47, 55, 62, 63]

/-- `QUANT_DEFAULT` in vector-position order (45_reconstruction.md R554). -/
def quantDefault : Vector Byte 64 :=
  #v[2, 16, 16, 19, 16, 19, 22, 22,
     22, 22, 22, 22, 26, 24, 26, 27,
     27, 27, 26, 26, 26, 26, 27, 27,
     27, 29, 29, 29, 34, 34, 34, 29,
     29, 29, 27, 27, 29, 29, 32, 32,
     34, 34, 37, 38, 37, 35, 35, 34,
     35, 38, 38, 40, 40, 40, 48, 48,
     46, 46, 56, 56, 58, 69, 69, 83]

/-- The parameters at their defaults (00_scope.md R7, 93_implementation_defined.md section 2). -/
def defaultParams : Params where
  maxDim := 65520#16
  zeroAcTolerant := []
  extraSharedVersions := []
  titleFormats := []
  acVlcTable := none
  dcDiffTableLuma := none
  dcDiffTableChroma := none
  zigzag := zigzagDefault
  quantDefault := quantDefault
  kernels := []
  rgbConversion := .default
  floatIdct := .default

end Sys2Proof.Machine
end

