-- ==== Sys2Proof/Machine/State.lean ====
section
/-! DEFINITION. The state of one instance of the core: every element of 10_state.md, the host's output arrays
(20_memory.md R100), and the model's own fields (logs 1, 4, 5, 14).  Plain data. -/

namespace Sys2Proof.Machine

/-- `CFG` (10_state.md R53). -/
structure Cfg where
  width : Half
  height : Half
  variant : Variant
  filterMerge : Bool
  upsampler : Upsampler
  deriving DecidableEq, Repr

/-- `HDR` (10_state.md R59): every field holds none until the header parse writes it. -/
structure Hdr where
  rlcCount : Option Half
  marker : Option Half
  qscaleL : Option (BitVec 6)
  qscaleC : Option (BitVec 6)
  version : Option Half
  dcMode : Option DcMode
  acTable : Option AcTable
  body : Option Nat
  deriving DecidableEq, Repr

/-- `DSTATE` (10_state.md R61). -/
inductive DState where
  | idle
  | active
  | done
  | failed
  deriving DecidableEq, Repr

/-- `ROLE`, the block roles in their cyclic order 0 to 5 (40_mdec_code.md R205). -/
inductive Role where
  | cr
  | cb
  | y1
  | y2
  | y3
  | y4
  deriving DecidableEq, Repr

/-- The position tracker's registers (10_state.md R62). -/
structure Tracker where
  mbIndex : Nat
  role : Role
  firstOfBlock : Bool
  codesInBlock : Nat
  totalCodes : Nat
  totalBlocks : Nat
  totalMbs : Nat
  deriving DecidableEq, Repr

/-- `PREV_DC` (10_state.md R64). -/
structure PrevDc where
  cr : Int
  cb : Int
  y : Int
  deriving DecidableEq, Repr

/-- `FRAME_MODE` (10_state.md R73). -/
inductive FrameMode where
  | none
  | codes
  | pixels
  deriving DecidableEq, Repr

/-- `STATUS.ERR_KIND` (10_state.md R70). -/
inductive ErrKind where
  | none
  | endOfStream
  | readCorruption
  deriving DecidableEq, Repr

/-- The phase of an error (60_exceptions.md R705). -/
inductive Phase where
  | header
  | block
  deriving DecidableEq, Repr

/-- The offending value of an error: a number, or the available bits (60_exceptions.md R702). -/
inductive CtxValue where
  | number (v : Int)
  | bits (w : Bits)
  deriving DecidableEq, Repr

/-- The error context record (60_exceptions.md R705). -/
structure Ctx where
  phase : Phase
  fmt : Option Fmt
  mbIndex : Option Nat
  mbPixel : Option (Nat × Nat)
  role : Option Role
  codesInBlock : Option Nat
  bitPos : Option Nat
  value : Option CtxValue
  deriving DecidableEq, Repr

/-- `STATUS.WARN`, a set of the two warnings (60_exceptions.md R709). -/
structure Warn where
  partialUnit : Bool
  degenerateCodes : Bool
  deriving DecidableEq, Repr

/-- `STATUS` (10_state.md R70). -/
structure Status where
  errKind : ErrKind
  errCause : Option Cause
  errCtx : Option Ctx
  warn : Warn
  degenCount : Nat
  deriving DecidableEq, Repr

/-- A coefficient code: `top6` and the two's complement `bottom10` (40_mdec_code.md R200). -/
structure Code where
  top6 : BitVec 6
  bottom10 : BitVec 10
  deriving DecidableEq, Repr

/-- What `QUERY_STATUS` returns of a configured core (47_host_interface.md R657). -/
structure StatusBody where
  dstate : DState
  frameMode : FrameMode
  fmt : Option Fmt
  hdr : Hdr
  streamBits : Nat
  bitPos : Nat
  status : Status
  trk : Tracker
  mbPixel : Nat × Nat
  deriving DecidableEq, Repr

/-- What `QUERY_STATUS` returns (47_host_interface.md R657): before the first CONFIGURE, none for everything but
`CONFIGURED` (70_reset_and_hazards.md R751). -/
structure StatusRecord where
  configured : Bool
  body : Option StatusBody
  deriving DecidableEq, Repr

/-- The outcome of a host operation, with its results (47_host_interface.md R648); its number is `Reply.outcomeCode`. -/
inductive Reply where
  /-- `OK` without results. -/
  | ok
  /-- `OK` of `READ_CODE`: the packed code and the end-of-block flag (R653). -/
  | code (w : Half) (endOfBlock : Bool)
  /-- `OK` of `QUERY_STATUS` (R657). -/
  | status (r : StatusRecord)
  | done
  | refused
  | endOfStream (ctx : Ctx)
  | readCorruption (cause : Cause) (ctx : Ctx)
  deriving DecidableEq, Repr

/-- MODEL's own (log 4): the operation whose loop the core is inside. -/
inductive Running where
  | idle
  | readCode
  | decodeFrame
  deriving DecidableEq, Repr

/-- MODEL's own (log 4): what `decode_one` has returned and the consumer has not taken: the code, and the position
read before the tracker advanced for it (47_host_interface.md R649). -/
structure Emitted where
  code : Code
  mbIndex : Nat
  role : Role
  first : Bool
  codesInBlock : Nat
  start : Nat
  deriving DecidableEq, Repr

/-- A sparse map in rising order of addresses; an address not listed reads as the map's rest value (log 17). -/
abbrev Memory (α : Type) := List (Nat × α)

/-- The state of one instance (10_state.md R50, R51). -/
structure State where
  /-- MODEL's own (log 5): the parameters of 00_scope.md R7. -/
  params : Params
  /-- MODEL's own (log 1): the requests the host has issued, the first to be taken first. -/
  hostIn : List (List Byte)
  /-- MODEL's own (log 14): the outcome of the last operation. -/
  reply : Option Reply
  /-- MODEL's own (log 4). -/
  running : Running
  /-- MODEL's own (log 4). -/
  emitted : Option Emitted
  /-- `CONFIGURED` (R74). -/
  configured : Bool
  /-- `CFG` (R53). -/
  cfg : Cfg
  /-- `QT` (R55). -/
  qt : Vector Byte 64
  /-- `QT_ACTIVE` (R56). -/
  qtActive : Vector Byte 64
  /-- `IN`, whose length is `IN_LEN` (R57). -/
  inBuf : List Byte
  /-- `FMT` (R58). -/
  fmt : Option Fmt
  /-- `HDR` (R59). -/
  hdr : Hdr
  /-- `BITPOS` (R60). -/
  bitPos : Nat
  /-- `STREAM_BITS` (R60). -/
  streamBits : Nat
  /-- `DSTATE` (R61). -/
  dstate : DState
  /-- The position tracker (R62). -/
  trk : Tracker
  /-- `VPOS` (R63). -/
  vpos : Nat
  /-- `PREV_DC` (R64). -/
  prevDc : PrevDc
  /-- `DEGEN_COUNT` (R65). -/
  degenCount : Nat
  /-- `PEND_RUN` (R66). -/
  pendRun : Option Nat
  /-- `BLK` (R67). -/
  blk : Vector Sample 64
  /-- `NZ_COUNT` (R68). -/
  nzCount : Nat
  /-- `LAST_NZ` (R68). -/
  lastNz : Option (Fin 64)
  /-- `BLK_QSCALE` (R68). -/
  blkQscale : BitVec 6
  /-- `RPOS` (R68). -/
  rpos : Nat
  /-- `PLANE_Y` (R69). -/
  planeY : Memory Sample
  /-- `PLANE_CB` (R69). -/
  planeCb : Memory Sample
  /-- `PLANE_CR` (R69). -/
  planeCr : Memory Sample
  /-- `STATUS` (R70). -/
  status : Status
  /-- `FRAME_MODE` (R73). -/
  frameMode : FrameMode
  /-- The host's RGB output array: the elements the core has written (20_memory.md R121; log 16). -/
  outRgb : Memory (Option Pixel)
  /-- The host's 4:2:0 output array: the elements the core has written (47_host_interface.md R656; log 16). -/
  outYuv : Memory (Option Sample)
  deriving DecidableEq, Repr

/-- Why the model stops.  No run from reset raises any of them (60_exceptions.md R720, R721): each stands where the
spec gives no meaning (log 15). -/
inductive Fault where
  /-- A rule reads an element while it holds none: raised by whatever reads it; safe (70_reset_and_hazards.md R753). -/
  | readOfNone
  /-- A codeword or a packed code is executed where no operation expects it: raised by the meanings of the
  codewords and of the packed codes; safe (43_entropy_ac.md R350, 42_entropy_dc.md R300). -/
  | notExpected
  /-- A host command is executed while an operation runs: raised by the meanings of the host commands; safe
  (70_reset_and_hazards.md R760: "such a host has no move"). -/
  | operationOverlap
  /-- A block lies outside its plane: raised by the block write; safe (20_memory.md R120: "Every write the core
  makes is inside the plane"). -/
  | planeAddress
  /-- A merged run does not fit `top6`: raised by the delivery of a code; safe (44_filter.md R503: "the merged run
  always fits in 6 bits"). -/
  | mergedRun
  deriving DecidableEq, Repr

/-- Why the model gives an instruction no meaning.  The spec's REFUSED is no refusal of the model but a reply (log 14). -/
inductive Refusal where
  /-- The instruction has no meaning in this model yet: raised by `exec`'s arms alone; safe. -/
  | notModelled (mnemonic : String)
  deriving DecidableEq, Repr

/-- What a step of the machine answers. -/
abbrev Result := Host.Outcome State Fault Refusal

/-- `HDR` with every field none (70_reset_and_hazards.md R750). -/
def Hdr.empty : Hdr := ⟨none, none, none, none, none, none, none, none⟩

/-- The tracker's initial value: "first macroblock, role=Cr, firstOfBlock=true" (40_mdec_code.md R210). -/
def Tracker.initial : Tracker := ⟨0, .cr, true, 0, 0, 0, 0⟩

/-- `STATUS` with no error and no warning (70_reset_and_hazards.md R750, R752). -/
def Status.clear : Status := ⟨.none, none, none, ⟨false, false⟩, 0⟩

/-- The zero sample of a variant (10_state.md R67, R69). -/
def zeroSample : Variant → Sample
  | .int => .int 0
  | .float => .float 0#64

/-- Power-on (70_reset_and_hazards.md R751): `CONFIGURED = 0`.  The spec says that every other element holds none;
they hold here the values they have after CONFIGURE, and no operation reads one while `CONFIGURED = 0` (log 3). -/
def State.reset : State where
  params := defaultParams
  hostIn := []
  reply := none
  running := .idle
  emitted := none
  configured := false
  cfg := ⟨0#16, 0#16, .int, false, .nearest⟩
  qt := quantDefault
  qtActive := quantDefault
  inBuf := []
  fmt := none
  hdr := Hdr.empty
  bitPos := 0
  streamBits := 0
  dstate := .idle
  trk := Tracker.initial
  vpos := 0
  prevDc := ⟨0, 0, 0⟩
  degenCount := 0
  pendRun := none
  blk := Vector.replicate 64 (zeroSample .int)
  nzCount := 0
  lastNz := none
  blkQscale := 0#6
  rpos := 0
  planeY := []
  planeCb := []
  planeCr := []
  status := Status.clear
  frameMode := .none
  outRgb := []
  outYuv := []

end Sys2Proof.Machine
end

