-- ==== Sys2Proof/Machine/Operands.lean ====
section
/-! DEFINITION. The coefficient primitive (40_mdec_code.md R200 to R204) and the operands the codewords assemble: the
signed level (30_encoding.md R161), the DC delta (42_entropy_dc.md R306), the dequantized coefficient
(45_reconstruction.md R557, R560, R561). -/

namespace Sys2Proof.Machine

/-! ## The coefficient primitive -/

/-- `pack` (40_mdec_code.md R202). -/
def Code.pack (c : Code) : Half := packWord c.top6 c.bottom10

/-- `unpack` (40_mdec_code.md R202): every word is a code. -/
def Code.unpack (w : Half) : Code := ⟨w.extractLsb' 10 6, w.extractLsb' 0 10⟩

/-- `get_top6` (40_mdec_code.md R201). -/
def Code.getTop6 (c : Code) : Int := c.top6.toNat

/-- `get_bottom10` (40_mdec_code.md R201). -/
def Code.getBottom10 (c : Code) : Int := c.bottom10.toInt

/-- `set_top6` (40_mdec_code.md R201): none is REFUSED. -/
def Code.setTop6 (c : Code) (v : Int) : Option Code :=
  if 0 ≤ v ∧ v ≤ 63 then some { c with top6 := BitVec.ofInt 6 v } else none

/-- `set_bottom10` (40_mdec_code.md R201): none is REFUSED. -/
def Code.setBottom10 (c : Code) (v : Int) : Option Code :=
  if -512 ≤ v ∧ v ≤ 511 then some { c with bottom10 := BitVec.ofInt 10 v } else none

/-- `copy` (40_mdec_code.md R201): a new code with both fields equal. -/
def Code.copy (c : Code) : Code := ⟨c.top6, c.bottom10⟩

/-- `pack` of any pair of integers (40_mdec_code.md R202): none is REFUSED. -/
def packPair (top6 bottom10 : Int) : Option Half :=
  if 0 ≤ top6 ∧ top6 ≤ 63 ∧ -512 ≤ bottom10 ∧ bottom10 ≤ 511 then
    some (packWord (BitVec.ofInt 6 top6) (BitVec.ofInt 10 bottom10))
  else none

/-! ## Operand assembly -/

/-- The level of a VLC codeword (30_encoding.md R161): the magnitude, negative when the sign bit is 1. -/
def vlcLevel (magnitude : Nat) (neg : Bool) : BitVec 10 :=
  if neg then -BitVec.ofNat 10 magnitude else BitVec.ofNat 10 magnitude

/-- The delta of `size` difference bits (42_entropy_dc.md R306). -/
def dcDelta (size v : Nat) : Int :=
  if size = 0 then 0
  else if v ≥ 2 ^ (size - 1) then v
  else (v : Int) - (2 ^ size - 1 : Nat)

/-! ## Dequantization -/

/-- The DC coefficient (45_reconstruction.md R557): `dc * QT_ACTIVE[0]`, exact in both variants. -/
def dequantDc (variant : Variant) (dc : Int) (q : Byte) : Sample :=
  match variant with
  | .int => .int (dc * q.toNat)
  | .float => .float (doubleOfInt (dc * q.toNat))

/-- An AC coefficient (45_reconstruction.md R560, R561): `(l * q * s + 4) >> 3`, the shift rounding down
(00_scope.md R11), or `l * q * s / 8.0`. -/
def dequantAc (variant : Variant) (level : Int) (q : Byte) (qscale : Nat) : Sample :=
  match variant with
  | .int => .int ((level * q.toNat * qscale + 4) / 8)
  | .float => .float (doubleOfScaled (level * q.toNat * qscale) 3)

end Sys2Proof.Machine
end

