-- ==== Sys2Proof/Machine/Flags.lean ====
section
/-! DEFINITION. The flags (10_state.md R71): a code's end-of-block flag by its position, the degenerate code, and the
warnings.  FIRST_OF_BLOCK is the tracker's. -/

namespace Sys2Proof.Machine

/-- The end-of-block code `(63, -512)` (30_encoding.md R151). -/
def eobCode : Code := ⟨63#6, 512#10⟩

/-- `isEOB` (40_mdec_code.md R203): the bit pattern alone. -/
def Code.isEob (c : Code) : Bool := c.top6 == 63#6 && c.bottom10 == 512#10

/-- The terminal flag `t` (40_mdec_code.md R212): never of a block's first code. -/
def isTerminal (first : Bool) (c : Code) : Bool := !first && c.isEob

/-- A degenerate code (44_filter.md R501). -/
def isDegenerate (first : Bool) (c : Code) : Bool := !first && !c.isEob && c.bottom10 == 0#10

/-- `warn PARTIAL_UNIT` (60_exceptions.md R709). -/
def warnPartialUnit (s : State) : State :=
  { s with status := { s.status with warn := { s.status.warn with partialUnit := true } } }

/-- `warn DEGENERATE_CODES` (60_exceptions.md R709). -/
def warnDegenerateCodes (s : State) : State :=
  { s with status := { s.status with warn := { s.status.warn with degenerateCodes := true } } }

end Sys2Proof.Machine
end

