-- ==== Sys2Proof/Machine/Ops.lean ====
section
/-! DEFINITION. The operations the meanings share: sparse memory, the derived sizes, the input buffer and the bit
reader (20_memory.md), the position tracker (40_mdec_code.md R205 to R219), the recording of a frame's error with its
zero-fill (60_exceptions.md R712, R713: the one way an operation ends in an error; there is no trap and no return
from one, R716, R717), and one codeword of each shape (42_entropy_dc.md R300, R303; 43_entropy_ac.md R353, R360,
R362, R366). -/

namespace Sys2Proof.Machine

/-! ## Sparse memory (logs 16, 17) -/

/-- What an address reads as: its entry, else the rest value. -/
def Memory.read {α : Type} (rest : α) : Memory α → Nat → α
  | [], _ => rest
  | (a, v) :: m, k => if k = a then v else Memory.read rest m k

/-- The memory with one address written; writing the rest value removes the entry. -/
def Memory.write {α : Type} [DecidableEq α] (rest : α) : Memory α → Nat → α → Memory α
  | [], k, v => if v = rest then [] else [(k, v)]
  | (a, w) :: m, k, v =>
    if k < a then (if v = rest then (a, w) :: m else (k, v) :: (a, w) :: m)
    else if k = a then (if v = rest then m else (k, v) :: m)
    else (a, w) :: Memory.write rest m k v

/-- The addresses rise, all above a bound if there is one. -/
def Memory.rising {α : Type} : Option Nat → Memory α → Bool
  | _, [] => true
  | none, (a, _) :: m => Memory.rising (some a) m
  | some b, (a, _) :: m => decide (b < a) && Memory.rising (some a) m

/-- The canonical form: addresses strictly rising and no entry equal to the rest value. -/
def Memory.wf {α : Type} [DecidableEq α] (rest : α) (m : Memory α) : Bool :=
  Memory.rising none m && m.all (fun e => decide (e.2 ≠ rest))

/-! ## Derived sizes (00_scope.md R9, 10_state.md R54) -/

def Cfg.mbW (c : Cfg) : Nat := (c.width.toNat + 15) / 16
def Cfg.mbH (c : Cfg) : Nat := (c.height.toNat + 15) / 16
def Cfg.w16 (c : Cfg) : Nat := 16 * c.mbW
def Cfg.h16 (c : Cfg) : Nat := 16 * c.mbH
def Cfg.mbCount (c : Cfg) : Nat := c.mbW * c.mbH

/-- The top-left pixel of a macroblock, column-major (40_mdec_code.md R206, R211). -/
def Cfg.mbPixel (c : Cfg) (i : Nat) : Nat × Nat := (i / c.mbH * 16, i % c.mbH * 16)

/-! ## The input buffer and the bit reader (20_memory.md R101 to R112) -/

/-- `MemRead16` (R101): two bytes, little-endian; none past the end of `IN`. -/
def memRead16 (inBuf : List Byte) (addr : Nat) : Option Half :=
  match inBuf[addr]?, inBuf[addr + 1]? with
  | some lo, some hi => some (hi ++ lo)
  | _, _ => none

/-- The entry of `TITLE_FORMATS` for a title format (41_entropy_header.md R256). -/
def titleFormat? (p : Params) (t : TitleName) : Option TitleFormat := p.titleFormats.find? (fun f => f.name == t)

/-- The title format with a DC codeword of its own (42_entropy_dc.md R307) that the format is, if it is one. -/
def ownDc (p : Params) : Option Fmt → Option TitleFormat
  | some (.title t) => (titleFormat? p t).filter (fun f => f.dc == .own)
  | some .strShared | some .strDiff | some .prefix40 | none => none

/-- The units of the format are stored high byte first (20_memory.md R105, 41_entropy_header.md R256). -/
def bigEndianUnits (p : Params) : Option Fmt → Bool
  | some (.title t) => match titleFormat? p t with
    | some f => f.bigEndianUnits
    | none => false
  | some .strShared | some .strDiff | some .prefix40 | none => false

/-- Unit `k` of the bitstream that begins at `body` (20_memory.md R105). -/
def unitAt (s : State) (body k : Nat) : Half :=
  let lo := s.inBuf.getD (body + 2 * k) 0#8
  let hi := s.inBuf.getD (body + 2 * k + 1) 0#8
  if bigEndianUnits s.params s.fmt then lo ++ hi else hi ++ lo

/-- Bit `i` of the bitstream: each unit most significant bit first (20_memory.md R107). -/
def streamBit (s : State) (body i : Nat) : Bool := (unitAt s body (i / 16)).getLsbD (15 - i % 16)

/-- `WINDOW`, the longest codeword (20_memory.md R110). -/
def window : Nat := 22

/-- The bits that the codewords of a context are read from: the window, and for a title format's AC codewords the escape's
prefix and run with a window for the level after them (43_entropy_ac.md R365; 20_memory.md R110: no outcome depends on a
wider window). -/
def windowOf : Context → Nat
  | .acTitle => 12 + window
  | .dcShared | .dcLuma | .dcChroma | .ac | .codeFirst | .codeLater | .command => window

/-- A code that one `Take` can consume (20_memory.md R111): a row of a supplied table with another is none (log 24). -/
def takeable (code : Bits) : Bool := !code.isEmpty && decide (code.length ≤ window)

/-- `Peek(n)` (20_memory.md R110): at most `n` bits from `BITPOS`, fewer at the end of the stream. -/
def peek (s : State) (body n : Nat) : Bits :=
  (List.range (min n (s.streamBits - s.bitPos))).map (fun i => streamBit s body (s.bitPos + i))

/-- `Take(n)` (20_memory.md R111), the consuming of it: none when fewer than `n` bits remain. -/
def take (n : Nat) (s : State) : Option State :=
  if s.bitPos + n > s.streamBits then none else some { s with bitPos := s.bitPos + n }

/-! ## Roles and the position tracker (40_mdec_code.md R205 to R214) -/

def Role.index : Role → Nat
  | .cr => 0
  | .cb => 1
  | .y1 => 2
  | .y2 => 3
  | .y3 => 4
  | .y4 => 5

/-- The role of a block by its number in the macroblock. -/
def roleOfIndex (k : Nat) : Role :=
  match k with
  | 0 => .cr
  | 1 => .cb
  | 2 => .y1
  | 3 => .y2
  | 4 => .y3
  | _ => .y4

/-- The next role in the cyclic order (R205). -/
def Role.next : Role → Role
  | .cr => .cb
  | .cb => .y1
  | .y1 => .y2
  | .y2 => .y3
  | .y3 => .y4
  | .y4 => .cr

def Role.isLuma : Role → Bool
  | .cr | .cb => false
  | .y1 | .y2 | .y3 | .y4 => true

/-- Advance on a non-terminal code (R213). -/
def Tracker.advanceCode (t : Tracker) : Tracker :=
  { t with codesInBlock := t.codesInBlock + 1, totalCodes := t.totalCodes + 1, firstOfBlock := false }

/-- Advance on the end-of-block code (R214). -/
def Tracker.advanceEob (t : Tracker) : Tracker :=
  { mbIndex := if t.role = .y4 then t.mbIndex + 1 else t.mbIndex
    role := t.role.next
    firstOfBlock := true
    codesInBlock := 0
    totalCodes := t.totalCodes + 1
    totalBlocks := t.totalBlocks + 1
    totalMbs := if t.role = .y4 then t.totalMbs + 1 else t.totalMbs }

/-- Emit a code (43_entropy_ac.md R350, 40_mdec_code.md R218): the tracker advances, `DSTATE` becomes DONE after the
last block (R214), and the code waits for the consumer with the position read before the advance
(47_host_interface.md R649).  `start` is `BITPOS` at the start of the codeword. -/
def emit (start : Nat) (c : Code) (s : State) : State :=
  let trk := if isTerminal s.trk.firstOfBlock c then s.trk.advanceEob else s.trk.advanceCode
  { s with
    emitted := some ⟨c, s.trk.mbIndex, s.trk.role, s.trk.firstOfBlock, s.trk.codesInBlock, start⟩
    trk := trk
    dstate := if isTerminal s.trk.firstOfBlock c && trk.mbIndex == s.cfg.mbCount then .done else s.dstate }

/-! ## Planes (20_memory.md R120) -/

inductive PlaneId where
  | y
  | cb
  | cr
  deriving DecidableEq, Repr

/-- The columns of a plane (R120): the luma stride, or the chroma stride. -/
def PlaneId.stride (c : Cfg) : PlaneId → Nat
  | .y => c.w16
  | .cb | .cr => c.w16 / 2

/-- The rows of a plane (R120). -/
def PlaneId.rows (c : Cfg) : PlaneId → Nat
  | .y => c.h16
  | .cb | .cr => c.h16 / 2

def State.plane (s : State) : PlaneId → Memory Sample
  | .y => s.planeY
  | .cb => s.planeCb
  | .cr => s.planeCr

def State.setPlane (s : State) (p : PlaneId) (m : Memory Sample) : State :=
  match p with
  | .y => { s with planeY := m }
  | .cb => { s with planeCb := m }
  | .cr => { s with planeCr := m }

/-- `PlaneRead` (R120): the sample at a column and a row. -/
def planeRead (s : State) (p : PlaneId) (x y : Nat) : Sample :=
  Memory.read (zeroSample s.cfg.variant) (s.plane p) (y * p.stride s.cfg + x)

/-- The 64 `PlaneWrite`s of a block whose top-left sample is at `(x0, y0)` (R120, 45_reconstruction.md R562):
sample `8 * y + x` goes to column `x0 + x`, row `y0 + y`. -/
def blockWrites (rest : Sample) (stride x0 y0 : Nat) (f : Nat → Sample) (m : Memory Sample) : Memory Sample :=
  (List.range 64).foldl (fun m k => Memory.write rest m ((y0 + k / 8) * stride + (x0 + k % 8)) (f k)) m

/-- The plane of a role (45_reconstruction.md R569). -/
def Role.plane : Role → PlaneId
  | .cr => .cr
  | .cb => .cb
  | .y1 | .y2 | .y3 | .y4 => .y

/-- The origin of a block in its plane (45_reconstruction.md R569). -/
def blockOrigin (c : Cfg) (i : Nat) (r : Role) : Nat × Nat :=
  let (mx, my) := c.mbPixel i
  match r with
  | .cr | .cb => (mx / 2, my / 2)
  | .y1 => (mx, my)
  | .y2 => (mx + 8, my)
  | .y3 => (mx, my + 8)
  | .y4 => (mx + 8, my + 8)

/-- Write the samples of a block (45_reconstruction.md R562, "write S"). -/
def writeBlock (i : Nat) (r : Role) (f : Nat → Sample) (s : State) : State :=
  let origin := blockOrigin s.cfg i r
  s.setPlane r.plane (blockWrites (zeroSample s.cfg.variant) (r.plane.stride s.cfg) origin.1 origin.2 f (s.plane r.plane))

/-- Write 0 to the samples of a block. -/
def zeroBlock (i : Nat) (r : Role) (s : State) : State := writeBlock i r (fun _ => zeroSample s.cfg.variant) s

/-- Zero-fill (45_reconstruction.md R573): from a block, in decode order, through the last block of the frame. -/
def zeroFillFrom (i : Nat) (r : Role) (s : State) : State :=
  let k := 6 * i + r.index
  (List.range (6 * s.cfg.mbCount - k)).foldl (fun s j => zeroBlock ((k + j) / 6) (roleOfIndex ((k + j) % 6)) s) s

/-! ## Errors (60_exceptions.md) -/

/-- An error of the frame: its kind, its cause and its context (60_exceptions.md R712). -/
inductive FrameError where
  | endOfStream (ctx : Ctx)
  | readCorruption (cause : Cause) (ctx : Ctx)
  deriving DecidableEq, Repr

/-- The outcome that returns an error (47_host_interface.md R648). -/
def FrameError.reply : FrameError → Reply
  | .endOfStream ctx => .endOfStream ctx
  | .readCorruption cause ctx => .readCorruption cause ctx

/-- The number of an outcome (47_host_interface.md R658, its second table). -/
def Reply.outcomeCode : Reply → Nat
  | .ok | .code _ _ | .status _ => 0
  | .done => 1
  | .refused => 2
  | .endOfStream _ => 3
  | .readCorruption _ _ => 4

/-- The number of a cause (60_exceptions.md R702). -/
def causeNumber : Cause → Nat
  | .unrecognizedHeader => 1
  | .zeroQscale => 2
  | .qscaleRange => 3
  | .badVersion => 4
  | .unmatchedVlc => 5
  | .unmatchedDc => 6
  | .dcRange => 7
  | .zeroEscape => 8
  | .runOverflow => 9
  | .runOutOfBounds => 10

/-- Record an error (60_exceptions.md R712). -/
def recordError (e : FrameError) (s : State) : State :=
  match e with
  | .endOfStream ctx =>
    { s with dstate := .failed, status := { s.status with errKind := .endOfStream, errCause := none, errCtx := some ctx } }
  | .readCorruption cause ctx =>
    { s with dstate := .failed,
             status := { s.status with errKind := .readCorruption, errCause := some cause, errCtx := some ctx } }

/-- The recorded error, as the outcome that returns it again (60_exceptions.md R712). -/
def recordedReply (s : State) : Option Reply :=
  match s.status.errKind, s.status.errCause, s.status.errCtx with
  | .endOfStream, _, some ctx => some (.endOfStream ctx)
  | .readCorruption, some cause, some ctx => some (.readCorruption cause ctx)
  | _, _, _ => none

/-- `end_frame()` (47_host_interface.md R649). -/
def endFrame (s : State) : State :=
  let s := if s.degenCount > 0 then warnDegenerateCodes s else s
  { s with status := { s.status with degenCount := s.degenCount } }

/-- The operation that runs ends with an outcome. -/
def finish (r : Reply) (s : State) : State := { s with running := .idle, emitted := none, reply := some r }

/-- `fail(e)` (47_host_interface.md R649), in pixel mode after the zero-fill from block `(MB_INDEX, ROLE)` (R654):
the one way a running operation ends in an error. -/
def fail (e : FrameError) (s : State) : State :=
  let s := match s.running with
    | .decodeFrame => zeroFillFrom s.trk.mbIndex s.trk.role s
    | .readCode | .idle => s
  finish e.reply (endFrame (recordError e s))

/-- The context of an error of the BLOCK phase (60_exceptions.md R705), from the tracker before any advance (R219). -/
def blockCtx (s : State) (start : Nat) (value : Option CtxValue) : Ctx where
  phase := .block
  fmt := s.fmt
  mbIndex := some s.trk.mbIndex
  mbPixel := some (s.cfg.mbPixel s.trk.mbIndex)
  role := some s.trk.role
  codesInBlock := some s.trk.codesInBlock
  bitPos := some start
  value := value

/-- `raise EndOfStream(ctx)` at the start of a codeword (60_exceptions.md R700). -/
def raiseEndOfStream (s : State) : State := fail (.endOfStream (blockCtx s s.bitPos none)) s

/-- `raise ReadCorruption(cause, ctx)` for the codeword that began at `start` (60_exceptions.md R701). -/
def raiseCorruption (cause : Cause) (value : CtxValue) (start : Nat) (s : State) : State :=
  fail (.readCorruption cause (blockCtx s start (some value))) s

/-! ## Codewords -/

/-- What the core reads next from the bitstream: the DC rule of `HDR.DCMODE` at the start of a block, else the AC step
(47_host_interface.md R649).  Only an operation that runs on an ACTIVE frame reads one (43_entropy_ac.md R350). -/
def context (s : State) : Except Fault Context :=
  if s.running = .idle ∨ s.emitted ≠ none ∨ s.dstate ≠ .active then .error .notExpected
  else if s.fmt = none ∨ s.hdr.body = none then .error .readOfNone
  else if s.trk.firstOfBlock then
    match s.hdr.dcMode with
    | none => .error .readOfNone
    | some .shared => .ok .dcShared
    | some .diff => .ok (if s.trk.role.isLuma then .dcLuma else .dcChroma)
  else
    match s.hdr.acTable with
    | none => .error .readOfNone
    | some .main => .ok .ac
    | some .title => .ok .acTitle

/-- A codeword runs only where the core expects one of its kind. -/
def expecting (allowed : List Context) (s : State) (k : Result) : Result :=
  match context s with
  | .error f => .fault f
  | .ok c => if c ∈ allowed then k else .fault .notExpected

/-- `block_qscale(ROLE)` (42_entropy_dc.md R301). -/
def blockQscale (s : State) : Option (BitVec 6) := if s.trk.role.isLuma then s.hdr.qscaleL else s.hdr.qscaleC

/-- A DC codeword of so many bits that gives the DC itself (42_entropy_dc.md R300; R307 with a codeword of its own). -/
def dcFieldCodeword (len : Nat) (d : BitVec 10) (s : State) : Result :=
  expecting [.dcShared] s <|
    match take len s with
    | none => .next (raiseEndOfStream s)
    | some t => match blockQscale s with
      | none => .fault .readOfNone
      | some q => .next (emit s.bitPos ⟨q, d⟩ { t with vpos := 0 })

/-- The shared DC codeword (42_entropy_dc.md R300). -/
def dcSharedCodeword (d : BitVec 10) (s : State) : Result := dcFieldCodeword 10 d s

/-- `PREV_DC[pred(ROLE)]` (42_entropy_dc.md R302). -/
def PrevDc.get (p : PrevDc) : Role → Int
  | .cr => p.cr
  | .cb => p.cb
  | .y1 | .y2 | .y3 | .y4 => p.y

/-- `PREV_DC[pred(ROLE)] <- dc` (42_entropy_dc.md R302, R303). -/
def PrevDc.set (p : PrevDc) (dc : Int) : Role → PrevDc
  | .cr => { p with cr := dc }
  | .cb => { p with cb := dc }
  | .y1 | .y2 | .y3 | .y4 => { p with y := dc }

/-- A differential DC codeword of so many bits and this delta (42_entropy_dc.md R303, R304). -/
def dcDiffCodeword (allowed : List Context) (len : Nat) (delta : Int) (s : State) : Result :=
  expecting allowed s <|
    match take len s with
    | none => .next (raiseEndOfStream s)
    | some t =>
      let dc := s.prevDc.get s.trk.role + 4 * delta
      if dc < -512 ∨ dc > 511 then .next (raiseCorruption .dcRange (.number dc) s.bitPos t)
      else match blockQscale s with
        | none => .fault .readOfNone
        | some q =>
          .next (emit s.bitPos ⟨q, BitVec.ofInt 10 dc⟩ { t with prevDc := s.prevDc.set dc s.trk.role, vpos := 0 })

/-- The end-of-block codeword (43_entropy_ac.md R360). -/
def eobCodeword (s : State) : Result :=
  expecting [.ac, .acTitle] s <|
    match take 2 s with
    | none => .next (raiseEndOfStream s)
    | some t => .next (emit s.bitPos eobCode t)

/-- The format tolerates a zero-level escape (43_entropy_ac.md R363). -/
def zeroTolerant (s : State) : Bool :=
  match s.fmt with
  | none => false
  | some f => s.params.zeroAcTolerant.contains f

/-- An AC codeword of so many bits that carries a run: its bits are taken, then the run check (43_entropy_ac.md R353) is
made; `k` goes on from the state with the new position. -/
def runChecked (allowed : List Context) (len : Nat) (run : BitVec 6) (k : State → Result) (s : State) : Result :=
  expecting allowed s <|
    match take len s with
    | none => .next (raiseEndOfStream s)
    | some t =>
      let p := s.vpos + run.toNat + 1
      if p > 63 then .next (raiseCorruption .runOverflow (.number p) s.bitPos t)
      else k { t with vpos := p }

/-- `raise ReadCorruption(ZERO_ESCAPE)` for the escape of this run that began at `start` (43_entropy_ac.md R362). -/
def raiseZeroEscape (start : Nat) (run : BitVec 6) (s : State) : State :=
  raiseCorruption .zeroEscape (.number run.toNat) start s

/-- An AC codeword of so many bits: the run check (43_entropy_ac.md R353), then for an escape the zero-level check
(R362; 60_exceptions.md R708), then the code is emitted. -/
def acCodeword (allowed : List Context) (len : Nat) (run : BitVec 6) (level : BitVec 10) (escape : Bool)
    (s : State) : Result :=
  runChecked allowed len run (fun t =>
    if escape && level == 0#10 && !zeroTolerant s then .next (raiseZeroEscape s.bitPos run t)
    else .next (emit s.bitPos ⟨run, level⟩ t)) s

/-- A title's escape of so many bits that its own decoder calls a ZERO_ESCAPE (43_entropy_ac.md R365): the run check
comes first (60_exceptions.md R708). -/
def zeroEscapeCodeword (len : Nat) (run : BitVec 6) (s : State) : Result :=
  runChecked [.acTitle] len run (fun t => .next (raiseZeroEscape s.bitPos run t)) s

/-- A VLC codeword of the mainline table with its run, its magnitude, the bits of its code and its sign bit
(43_entropy_ac.md R366): one codeword of `codeBits + 1` bits (R351). -/
def vlcCodeword (run magnitude codeBits : Nat) (neg : Bool) (s : State) : Result :=
  acCodeword [.ac] (codeBits + 1) (BitVec.ofNat 6 run) (vlcLevel magnitude neg) false s

end Sys2Proof.Machine
end

