-- ==== Sys2Proof/Machine/Color.lean ====
section
/-! DEFINITION. The colour stage (46_color.md): chroma upsampling, the console's YCbCr to RGB conversion, and the two
outputs, which write only the host's arrays (R600). -/

namespace Sys2Proof.Machine

/-- The samples of a plane, row-major (20_memory.md R120), of the first `columns` columns and `rows` rows. -/
def planeSamples (s : State) (p : PlaneId) (columns rows : Nat) : List Sample :=
  (List.range rows).flatMap (fun y => (List.range columns).map (fun x => planeRead s p x y))

/-- The upsampled chroma at a luma position (46_color.md R601, R602). -/
def chromaAt (s : State) (x y : Nat) : Chroma :=
  match s.cfg.upsampler with
  | .nearest => ⟨planeRead s .cb (x / 2) (y / 2), planeRead s .cr (x / 2) (y / 2)⟩
  | .kernel k =>
    let columns := s.cfg.w16 / 2
    let rows := s.cfg.h16 / 2
    Config.upsample k
      ⟨s.cfg.variant, columns, rows, planeSamples s .cb columns rows, planeSamples s .cr columns rows⟩ x y

/-- A sample as a binary64 (46_color.md R610: "computed in binary64"). -/
def doubleOfSample : Sample → Double
  | .int v => doubleOfInt v
  | .float b => b

/-- `clamp(0, 255, v)` (00_scope.md R11, 46_color.md R611). -/
def clampByte (v : Int) : Byte := BitVec.ofInt 8 (min 255 (max 0 v))

/-- `clamp(0, 255, RGB_ROUND(c + 128))` with `RGB_ROUND(t) = floor(t + 0.5)` (46_color.md R610, R611): an infinite value
clamps to its end, and a value that is not a number gives the free channel (log 8). -/
def channelOf (free : Byte) (c : Double) : Byte :=
  match classOfDouble (doubleAdd (doubleAdd c 0x4060000000000000#64) 0x3FE0000000000000#64) with
  | .nan => free
  | .infinite neg => if neg then 0#8 else 255#8
  | .finite neg units => clampByte (floorUnits neg units)

/-- 1.402, 0.3437, 0.7143 and 1.772 in binary64 (46_color.md R610). -/
def coefRCr : Double := 0x3FF66E978D4FDF3B#64
def coefGCb : Double := 0x3FD5FF2E48E8A71E#64
def coefGCr : Double := 0x3FE6DB8BAC710CB3#64
def coefBCb : Double := 0x3FFC5A1CAC083127#64

/-- The default `CONSOLE_TO_RGB` (46_color.md R610), its sums from left to right (log 8). -/
def consoleToRgbDefault (y cb cr : Sample) : Pixel where
  r := channelOf (Config.nanChannel y cb cr .red) (doubleAdd (doubleOfSample y) (doubleMul coefRCr (doubleOfSample cr)))
  g := channelOf (Config.nanChannel y cb cr .green)
    (doubleSub (doubleSub (doubleOfSample y) (doubleMul coefGCb (doubleOfSample cb))) (doubleMul coefGCr (doubleOfSample cr)))
  b := channelOf (Config.nanChannel y cb cr .blue) (doubleAdd (doubleOfSample y) (doubleMul coefBCb (doubleOfSample cb)))

/-- `CONSOLE_TO_RGB` (46_color.md R610). -/
def consoleToRgb (p : Params) (y cb cr : Sample) : Pixel :=
  match p.rgbConversion with
  | .default => consoleToRgbDefault y cb cr
  | .supplied => Config.consoleToRgb y cb cr

/-- The pixel of the frame at a column and a row (46_color.md R610, 47_host_interface.md R655). -/
def pixelAt (s : State) (x y : Nat) : Pixel :=
  let c := chromaAt s x y
  consoleToRgb s.params (planeRead s .y x y) c.cb c.cr

/-- The pixels `READ_RGB` writes (47_host_interface.md R655, 46_color.md R612): pixel `(x, y)` at element
`OFFSET + y * STRIDE + x`, for the exact width and height. -/
def rgbWrites (s : State) (offset stride : Nat) (out : Memory (Option Pixel)) : Memory (Option Pixel) :=
  (List.range s.cfg.height.toNat).foldl (fun out y =>
    (List.range s.cfg.width.toNat).foldl (fun out x =>
      Memory.write none out (offset + y * stride + x) (some (pixelAt s x y))) out) out

/-- The three cropped planes one after another (46_color.md R615, 47_host_interface.md R656). -/
def croppedPlanes (s : State) : List Sample :=
  let width := s.cfg.width.toNat
  let height := s.cfg.height.toNat
  planeSamples s .y width height ++ planeSamples s .cb (width / 2) (height / 2)
    ++ planeSamples s .cr (width / 2) (height / 2)

/-- The samples `READ_YCBCR420` outputs (46_color.md R615, R616). -/
def yuvOutput (s : State) (space : Colorspace) : List Sample :=
  match space with
  | .console => croppedPlanes s
  | .rec601 =>
    let planes := croppedPlanes s
    (List.range planes.length).map
      (Config.rec601 s.cfg.variant s.cfg.width.toNat s.cfg.height.toNat planes)

/-- Write samples to consecutive elements of the host's array. -/
def writeFrom (samples : List Sample) (at_ : Nat) (out : Memory (Option Sample)) : Memory (Option Sample) :=
  match samples with
  | [] => out
  | v :: vs => writeFrom vs (at_ + 1) (Memory.write none out at_ (some v))

end Sys2Proof.Machine
end

