-- ==== Sys2Proof/Machine/Ac.lean ====
section
/-! DEFINITION. The meanings of the end-of-block codeword and of the mainline escape (43_entropy_ac.md R360, R362). -/

namespace Sys2Proof.Machine

/-- `AC_EOB` (43_entropy_ac.md R360). -/
def execAcEob (s : State) : Result := eobCodeword s

/-- `AC_ESCAPE` (43_entropy_ac.md R362): one codeword of 22 bits (R351; log 22). -/
def execAcEscape (r : BitVec 6) (l : BitVec 10) (s : State) : Result := acCodeword [.ac] 22 r l true s

end Sys2Proof.Machine
end

