-- ==== Sys2Proof/Machine/Dc.lean ====
section
/-! DEFINITION. The meanings of the DC codewords: the shared field (42_entropy_dc.md R300) and the differential
codewords of the default tables (42_entropy_dc.md R303, R310 to R328). -/

namespace Sys2Proof.Machine

/-- `DC_SHARED` (42_entropy_dc.md R300). -/
def execDcShared (d : BitVec 10) (s : State) : Result := dcSharedCodeword d s

/-- `DC_DIFF_Y_S0` (42_entropy_dc.md R310). -/
def execDcDiffYS0 (s : State) : Result := dcDiffCodeword [.dcLuma] 3 (dcDelta 0 0) s

/-- `DC_DIFF_Y_S1` (42_entropy_dc.md R311). -/
def execDcDiffYS1 (v : BitVec 1) (s : State) : Result := dcDiffCodeword [.dcLuma] 3 (dcDelta 1 v.toNat) s

/-- `DC_DIFF_Y_S2` (42_entropy_dc.md R312). -/
def execDcDiffYS2 (v : BitVec 2) (s : State) : Result := dcDiffCodeword [.dcLuma] 4 (dcDelta 2 v.toNat) s

/-- `DC_DIFF_Y_S3` (42_entropy_dc.md R313). -/
def execDcDiffYS3 (v : BitVec 3) (s : State) : Result := dcDiffCodeword [.dcLuma] 6 (dcDelta 3 v.toNat) s

/-- `DC_DIFF_Y_S4` (42_entropy_dc.md R314). -/
def execDcDiffYS4 (v : BitVec 4) (s : State) : Result := dcDiffCodeword [.dcLuma] 7 (dcDelta 4 v.toNat) s

/-- `DC_DIFF_Y_S5` (42_entropy_dc.md R315). -/
def execDcDiffYS5 (v : BitVec 5) (s : State) : Result := dcDiffCodeword [.dcLuma] 9 (dcDelta 5 v.toNat) s

/-- `DC_DIFF_Y_S6` (42_entropy_dc.md R316). -/
def execDcDiffYS6 (v : BitVec 6) (s : State) : Result := dcDiffCodeword [.dcLuma] 11 (dcDelta 6 v.toNat) s

/-- `DC_DIFF_Y_S7` (42_entropy_dc.md R317). -/
def execDcDiffYS7 (v : BitVec 7) (s : State) : Result := dcDiffCodeword [.dcLuma] 13 (dcDelta 7 v.toNat) s

/-- `DC_DIFF_Y_S8` (42_entropy_dc.md R318). -/
def execDcDiffYS8 (v : BitVec 8) (s : State) : Result := dcDiffCodeword [.dcLuma] 15 (dcDelta 8 v.toNat) s

/-- `DC_DIFF_C_S0` (42_entropy_dc.md R320). -/
def execDcDiffCS0 (s : State) : Result := dcDiffCodeword [.dcChroma] 2 (dcDelta 0 0) s

/-- `DC_DIFF_C_S1` (42_entropy_dc.md R321). -/
def execDcDiffCS1 (v : BitVec 1) (s : State) : Result := dcDiffCodeword [.dcChroma] 3 (dcDelta 1 v.toNat) s

/-- `DC_DIFF_C_S2` (42_entropy_dc.md R322). -/
def execDcDiffCS2 (v : BitVec 2) (s : State) : Result := dcDiffCodeword [.dcChroma] 4 (dcDelta 2 v.toNat) s

/-- `DC_DIFF_C_S3` (42_entropy_dc.md R323). -/
def execDcDiffCS3 (v : BitVec 3) (s : State) : Result := dcDiffCodeword [.dcChroma] 6 (dcDelta 3 v.toNat) s

/-- `DC_DIFF_C_S4` (42_entropy_dc.md R324). -/
def execDcDiffCS4 (v : BitVec 4) (s : State) : Result := dcDiffCodeword [.dcChroma] 8 (dcDelta 4 v.toNat) s

/-- `DC_DIFF_C_S5` (42_entropy_dc.md R325). -/
def execDcDiffCS5 (v : BitVec 5) (s : State) : Result := dcDiffCodeword [.dcChroma] 10 (dcDelta 5 v.toNat) s

/-- `DC_DIFF_C_S6` (42_entropy_dc.md R326). -/
def execDcDiffCS6 (v : BitVec 6) (s : State) : Result := dcDiffCodeword [.dcChroma] 12 (dcDelta 6 v.toNat) s

/-- `DC_DIFF_C_S7` (42_entropy_dc.md R327). -/
def execDcDiffCS7 (v : BitVec 7) (s : State) : Result := dcDiffCodeword [.dcChroma] 14 (dcDelta 7 v.toNat) s

/-- `DC_DIFF_C_S8` (42_entropy_dc.md R328). -/
def execDcDiffCS8 (v : BitVec 8) (s : State) : Result := dcDiffCodeword [.dcChroma] 16 (dcDelta 8 v.toNat) s

end Sys2Proof.Machine
end

