-- ==== Sys2Proof/Machine/Idct.lean ====
section
/-! DEFINITION. The floating-point inverse DCT (45_reconstruction.md R565, R566): the textbook 2-D formula in exact
integer arithmetic, and the binary64 result, which is a free value within a bound of the formula (log 7). -/

namespace Sys2Proof.Machine

/-- `cos(k * pi / 16) / 2` for `k` in 0..8, in units of `2 ^ -62`, to nearest. -/
def quarterCosines : List Int :=
  [2305843009213693952, 2261536882357481515, 2130321161396766249, 1917238392901444355, 1630477228166597777,
   1281057737935472749, 882407917260943721, 449847655186137774, 0]

/-- `cos(k * pi / 16) / 2` for any `k`, in units of `2 ^ -62`. -/
def halfCosine (k : Nat) : Int :=
  let k := k % 32
  if k ≤ 8 then quarterCosines.getD k 0
  else if k ≤ 16 then -quarterCosines.getD (16 - k) 0
  else if k ≤ 24 then -quarterCosines.getD (k - 16) 0
  else quarterCosines.getD (32 - k) 0

/-- `C(u) * cos((2x + 1) * u * pi / 16) / 2` (45_reconstruction.md R566), in units of `2 ^ -62`: `C(0) / 2` is
`cos(4 * pi / 16) / 2`. -/
def idctBasis (x u : Nat) : Int := if u = 0 then halfCosine 4 else halfCosine ((2 * x + 1) * u)

/-- The formula of 45_reconstruction.md R566 for sample `8 * y + x`, of coefficients in units of `2 ^ -1074`, in
units of `2 ^ -1198`. -/
def idctScaled (units : List Int) (k : Fin 64) : Int :=
  (List.range 64).foldl
    (fun sum i => sum + units.getD i 0 * idctBasis (k.val % 8) (i % 8) * idctBasis (k.val / 8) (i / 8)) 0

/-- The binary64 nearest to the formula. -/
def idctNominal (units : List Int) (k : Fin 64) : Double := doubleOfScaled (idctScaled units k) 1198

/-- A value within `10 ^ -9 * (1 + the sum of the magnitudes of the coefficients)` of the formula (log 7): the factor
`10 ^ 9 + 1` leaves room for the error of the tabled cosines. -/
def idctNear (units : List Int) (k : Fin 64) (d : Double) : Bool :=
  match classOfDouble d with
  | .nan | .infinite _ => false
  | .finite neg v =>
    decide ((signedUnits neg v * (2 ^ 124 : Nat) - idctScaled units k).natAbs * (10 ^ 9 + 1)
      ≤ (units.foldl (fun sum u => sum + u.natAbs) (2 ^ 1074)) * 2 ^ 124)

/-- The coefficients in units of `2 ^ -1074`, if all are finite. -/
def finiteUnits : List Double → Option (List Int)
  | [] => some []
  | d :: ds => match classOfDouble d, finiteUnits ds with
    | .finite neg units, some us => some (signedUnits neg units :: us)
    | _, _ => none

/-- `IDCT_FLOAT` (45_reconstruction.md R566): with the default, a free value that is held to the formula; a supplied
function, and coefficients that are not finite, give any value. -/
def idctFloat (p : Params) (blk : List Double) (k : Fin 64) : Double :=
  match p.floatIdct, finiteUnits blk with
  | .default, some units =>
    if idctNear units k (Config.idctFloat blk k) then Config.idctFloat blk k else idctNominal units k
  | .default, none => Config.idctFloat blk k
  | .supplied, _ => Config.idctFloat blk k

/-- `IDCT1_FLOAT` (45_reconstruction.md R566): by default `IDCT_FLOAT` of the matrix with the one coefficient. -/
def idct1Float (p : Params) (m : Fin 64) (c : Double) (k : Fin 64) : Double :=
  match p.floatIdct with
  | .default => idctFloat p (List.ofFn (fun i : Fin 64 => if i = m then c else 0#64)) k
  | .supplied => Config.idct1Float m c k

end Sys2Proof.Machine
end

