-- ==== Sys2Proof/Machine/Recon.lean ====
section
/-! DEFINITION. What happens to an emitted code: the redundant-code filter (44_filter.md), then the consumer: the host
in coefficient mode (47_host_interface.md R653), the reconstruction engine in pixel mode (45_reconstruction.md). -/

namespace Sys2Proof.Machine

/-! ## The filter (44_filter.md R500 to R505) -/

/-- A code the filter passes on; its run may be merged. -/
structure Passed where
  top6 : Nat
  bottom10 : BitVec 10
  deriving DecidableEq, Repr

/-- A code passed as it is. -/
def Code.passed (c : Code) : Passed := ⟨c.top6.toNat, c.bottom10⟩

/-- The pending run after one more degenerate code (44_filter.md R503). -/
def pendAfter (pend : Option Nat) (run : Nat) : Nat :=
  match pend with
  | none => run + 1
  | some p => p + run + 1

/-- `DEGEN_COUNT <- DEGEN_COUNT + 1` (44_filter.md R502); `STATUS.DEGEN_COUNT` is equal to it (10_state.md R70). -/
def countDegenerate (s : State) : State :=
  { s with degenCount := s.degenCount + 1, status := { s.status with degenCount := s.degenCount + 1 } }

/-- The filter step (44_filter.md R503): the code passed on, if one is, and the state. -/
def filterStep (first : Bool) (c : Code) (s : State) : Option Passed × State :=
  if first || c.isEob then (some c.passed, { s with pendRun := none })
  else if c.bottom10 == 0#10 then
    if s.cfg.filterMerge then
      (none, { countDegenerate s with pendRun := some (pendAfter s.pendRun c.top6.toNat) })
    else (some c.passed, countDegenerate s)
  else
    match s.cfg.filterMerge, s.pendRun with
    | true, some p => (some ⟨p + c.top6.toNat, c.bottom10⟩, { s with pendRun := none })
    | _, _ => (some c.passed, s)

/-! ## Coefficient mode -/

/-- `READ_CODE` returns the code it was waiting for (47_host_interface.md R653). -/
def deliver (terminal : Bool) (p : Passed) (s : State) : Result :=
  if p.top6 ≤ 63 then
    .next (finish (.code (packWord (BitVec.ofNat 6 p.top6) p.bottom10) terminal)
      (if s.dstate = .done then endFrame s else s))
  else .fault .mergedRun

/-! ## Pixel mode: the reconstruction engine -/

/-- Block start (45_reconstruction.md R556). -/
def blockStart (s : State) : State :=
  { s with blk := Vector.replicate 64 (zeroSample s.cfg.variant), nzCount := 0, lastNz := none, rpos := 0 }

/-- The first code of a block (45_reconstruction.md R557). -/
def reconDc (p : Passed) (s : State) : State :=
  let s := blockStart s
  let s := { s with blkQscale := BitVec.ofNat 6 p.top6 }
  if p.bottom10 ≠ 0#10 then
    { s with blk := s.blk.set 0 (dequantDc s.cfg.variant p.bottom10.toInt s.qtActive[0]), nzCount := 1, lastNz := some 0 }
  else { s with nzCount := 0 }

/-- `RPOS <- RPOS + run + 1` (45_reconstruction.md R558). -/
def reconAdvance (p : Passed) (s : State) : State := { s with rpos := s.rpos + p.top6 + 1 }

/-- The store of an AC code at `RPOS`, already advanced and at most 63 (45_reconstruction.md R558). -/
def reconStore (p : Passed) (s : State) : State :=
  if p.bottom10 ≠ 0#10 then
    let pos := Fin.ofNat 64 s.rpos
    let m := s.params.zigzag[pos]
    { s with blk := s.blk.set m (dequantAc s.cfg.variant p.bottom10.toInt s.qtActive[pos] s.blkQscale.toNat)
             nzCount := s.nzCount + 1
             lastNz := some m }
  else s

/-- The integer a coefficient holds (10_state.md R67). -/
def sampleInt : Sample → Int
  | .int v => v
  | .float _ => 0

/-- The binary64 a coefficient holds (10_state.md R67). -/
def sampleDouble : Sample → Double
  | .int _ => 0#64
  | .float b => b

/-- `IDCT_v(BLK)` (45_reconstruction.md R562, R565). -/
def idctSamples (p : Params) (variant : Variant) (blk : Vector Sample 64) (k : Nat) : Sample :=
  match variant with
  | .int => .int (Config.idctInt (blk.toList.map sampleInt) (Fin.ofNat 64 k))
  | .float => .float (idctFloat p (blk.toList.map sampleDouble) (Fin.ofNat 64 k))

/-- `IDCT1_v(m, c)` (45_reconstruction.md R562, R565). -/
def idct1Samples (p : Params) (variant : Variant) (m : Fin 64) (c : Sample) (k : Nat) : Sample :=
  match variant with
  | .int => .int (Config.idct1Int m (sampleInt c) (Fin.ofNat 64 k))
  | .float => .float (idct1Float p m (sampleDouble c) (Fin.ofNat 64 k))

/-- End of block (45_reconstruction.md R562), at the macroblock and role of the code. -/
def reconEob (i : Nat) (r : Role) (s : State) : Result :=
  if i < s.cfg.mbCount then
    if s.nzCount = 0 then .next (zeroBlock i r s)
    else if s.nzCount = 1 then
      match s.lastNz with
      | none => .fault .readOfNone
      | some m => .next (writeBlock i r (idct1Samples s.params s.cfg.variant m s.blk[m]) s)
    else .next (writeBlock i r (idctSamples s.params s.cfg.variant s.blk) s)
  else .fault .planeAddress

/-- The context of RUN_OUT_OF_BOUNDS (60_exceptions.md R702, R705): the position before the failing code's advance. -/
def outOfBoundsCtx (e : Emitted) (s : State) : Ctx where
  phase := .block
  fmt := s.fmt
  mbIndex := some e.mbIndex
  mbPixel := some (s.cfg.mbPixel e.mbIndex)
  role := some e.role
  codesInBlock := some e.codesInBlock
  bitPos := some e.start
  value := some (.number s.rpos)

/-- After a code of `DECODE_FRAME`: its loop goes on while the frame is ACTIVE, else the operation ends
(47_host_interface.md R654). -/
def continueDecode (s : State) : State := if s.dstate = .active then s else finish .ok (endFrame s)

/-- Reconstruct a passed code at its position (45_reconstruction.md R556 to R562). -/
def reconstruct (e : Emitted) (terminal : Bool) (p : Passed) (s : State) : Result :=
  if e.first then .next (continueDecode (reconDc p s))
  else if terminal then
    match reconEob e.mbIndex e.role s with
    | .next t => .next (continueDecode t)
    | .fault f => .fault f
    | .refused r => .refused r
  else
    let t := reconAdvance p s
    if t.rpos > 63 then .next (fail (.readCorruption .runOutOfBounds (outOfBoundsCtx e t)) t)
    else .next (continueDecode (reconStore p t))

/-! ## The consumer of a code -/

/-- One emitted code goes through the filter to the consumer (47_host_interface.md R653, R654); a code the filter
absorbs leaves the operation's loop to read on. -/
def consumeCode (c : Code) (e : Emitted) (s : State) : Result :=
  match s.running, filterStep e.first c { s with emitted := none } with
  | .idle, _ => .fault .notExpected
  | .readCode, (none, t) | .decodeFrame, (none, t) => .next t
  | .readCode, (some p, t) => deliver (isTerminal e.first c) p t
  | .decodeFrame, (some p, t) => reconstruct e (isTerminal e.first c) p t

end Sys2Proof.Machine
end

