-- ==== Sys2Proof/Machine/Packed.lean ====
section
/-! DEFINITION. The meanings of the packed codes: what the core does with a code once it is emitted, by the code's
position in its block (40_mdec_code.md R204, R212; 44_filter.md R503; 47_host_interface.md R653, R654). -/

namespace Sys2Proof.Machine

/-- `MDEC_EOB`, the terminal code of a block (40_mdec_code.md R203, R212). -/
def execMdecEob (s : State) : Result :=
  match s.emitted with
  | none => .fault .notExpected
  | some e => if e.first then .fault .notExpected else consumeCode eobCode e s

/-- `MDEC_DC`, the first code of a block, whatever its bits (40_mdec_code.md R204, R212). -/
def execMdecDc (q : BitVec 6) (d : BitVec 10) (s : State) : Result :=
  match s.emitted with
  | none => .fault .notExpected
  | some e => if e.first then consumeCode ⟨q, d⟩ e s else .fault .notExpected

/-- `MDEC_AC`, a later code of a block that is not the end of block (40_mdec_code.md R204, R212). -/
def execMdecAc (r : BitVec 6) (l : BitVec 10) (s : State) : Result :=
  match s.emitted with
  | none => .fault .notExpected
  | some e => if e.first || Code.isEob ⟨r, l⟩ then .fault .notExpected else consumeCode ⟨r, l⟩ e s

end Sys2Proof.Machine
end

