-- ==== Sys2Proof/Machine/Vlc.lean ====
section
/-! DEFINITION. The meanings of the VLC codewords of the mainline table (43_entropy_ac.md R366, R380 to R490): the
run, the magnitude and the bits of the code before the sign bit, row by row of 30_encoding.md R163. -/

namespace Sys2Proof.Machine

/-- `AC_R0_M1` (R380). -/
def execAcR0M1 (neg : Bool) (s : State) : Result := vlcCodeword 0 1 2 neg s

/-- `AC_R1_M1` (R381). -/
def execAcR1M1 (neg : Bool) (s : State) : Result := vlcCodeword 1 1 3 neg s

/-- `AC_R0_M2` (R382). -/
def execAcR0M2 (neg : Bool) (s : State) : Result := vlcCodeword 0 2 4 neg s

/-- `AC_R2_M1` (R383). -/
def execAcR2M1 (neg : Bool) (s : State) : Result := vlcCodeword 2 1 4 neg s

/-- `AC_R0_M3` (R384). -/
def execAcR0M3 (neg : Bool) (s : State) : Result := vlcCodeword 0 3 5 neg s

/-- `AC_R3_M1` (R385). -/
def execAcR3M1 (neg : Bool) (s : State) : Result := vlcCodeword 3 1 5 neg s

/-- `AC_R4_M1` (R386). -/
def execAcR4M1 (neg : Bool) (s : State) : Result := vlcCodeword 4 1 5 neg s

/-- `AC_R1_M2` (R387). -/
def execAcR1M2 (neg : Bool) (s : State) : Result := vlcCodeword 1 2 6 neg s

/-- `AC_R5_M1` (R388). -/
def execAcR5M1 (neg : Bool) (s : State) : Result := vlcCodeword 5 1 6 neg s

/-- `AC_R6_M1` (R389). -/
def execAcR6M1 (neg : Bool) (s : State) : Result := vlcCodeword 6 1 6 neg s

/-- `AC_R7_M1` (R390). -/
def execAcR7M1 (neg : Bool) (s : State) : Result := vlcCodeword 7 1 6 neg s

/-- `AC_R0_M4` (R391). -/
def execAcR0M4 (neg : Bool) (s : State) : Result := vlcCodeword 0 4 7 neg s

/-- `AC_R2_M2` (R392). -/
def execAcR2M2 (neg : Bool) (s : State) : Result := vlcCodeword 2 2 7 neg s

/-- `AC_R8_M1` (R393). -/
def execAcR8M1 (neg : Bool) (s : State) : Result := vlcCodeword 8 1 7 neg s

/-- `AC_R9_M1` (R394). -/
def execAcR9M1 (neg : Bool) (s : State) : Result := vlcCodeword 9 1 7 neg s

/-- `AC_R0_M5` (R395). -/
def execAcR0M5 (neg : Bool) (s : State) : Result := vlcCodeword 0 5 8 neg s

/-- `AC_R0_M6` (R396). -/
def execAcR0M6 (neg : Bool) (s : State) : Result := vlcCodeword 0 6 8 neg s

/-- `AC_R1_M3` (R397). -/
def execAcR1M3 (neg : Bool) (s : State) : Result := vlcCodeword 1 3 8 neg s

/-- `AC_R3_M2` (R398). -/
def execAcR3M2 (neg : Bool) (s : State) : Result := vlcCodeword 3 2 8 neg s

/-- `AC_R10_M1` (R399). -/
def execAcR10M1 (neg : Bool) (s : State) : Result := vlcCodeword 10 1 8 neg s

/-- `AC_R11_M1` (R400). -/
def execAcR11M1 (neg : Bool) (s : State) : Result := vlcCodeword 11 1 8 neg s

/-- `AC_R12_M1` (R401). -/
def execAcR12M1 (neg : Bool) (s : State) : Result := vlcCodeword 12 1 8 neg s

/-- `AC_R13_M1` (R402). -/
def execAcR13M1 (neg : Bool) (s : State) : Result := vlcCodeword 13 1 8 neg s

/-- `AC_R0_M7` (R403). -/
def execAcR0M7 (neg : Bool) (s : State) : Result := vlcCodeword 0 7 10 neg s

/-- `AC_R1_M4` (R404). -/
def execAcR1M4 (neg : Bool) (s : State) : Result := vlcCodeword 1 4 10 neg s

/-- `AC_R2_M3` (R405). -/
def execAcR2M3 (neg : Bool) (s : State) : Result := vlcCodeword 2 3 10 neg s

/-- `AC_R4_M2` (R406). -/
def execAcR4M2 (neg : Bool) (s : State) : Result := vlcCodeword 4 2 10 neg s

/-- `AC_R5_M2` (R407). -/
def execAcR5M2 (neg : Bool) (s : State) : Result := vlcCodeword 5 2 10 neg s

/-- `AC_R14_M1` (R408). -/
def execAcR14M1 (neg : Bool) (s : State) : Result := vlcCodeword 14 1 10 neg s

/-- `AC_R15_M1` (R409). -/
def execAcR15M1 (neg : Bool) (s : State) : Result := vlcCodeword 15 1 10 neg s

/-- `AC_R16_M1` (R410). -/
def execAcR16M1 (neg : Bool) (s : State) : Result := vlcCodeword 16 1 10 neg s

/-- `AC_R0_M8` (R411). -/
def execAcR0M8 (neg : Bool) (s : State) : Result := vlcCodeword 0 8 12 neg s

/-- `AC_R0_M9` (R412). -/
def execAcR0M9 (neg : Bool) (s : State) : Result := vlcCodeword 0 9 12 neg s

/-- `AC_R0_M10` (R413). -/
def execAcR0M10 (neg : Bool) (s : State) : Result := vlcCodeword 0 10 12 neg s

/-- `AC_R0_M11` (R414). -/
def execAcR0M11 (neg : Bool) (s : State) : Result := vlcCodeword 0 11 12 neg s

/-- `AC_R1_M5` (R415). -/
def execAcR1M5 (neg : Bool) (s : State) : Result := vlcCodeword 1 5 12 neg s

/-- `AC_R2_M4` (R416). -/
def execAcR2M4 (neg : Bool) (s : State) : Result := vlcCodeword 2 4 12 neg s

/-- `AC_R3_M3` (R417). -/
def execAcR3M3 (neg : Bool) (s : State) : Result := vlcCodeword 3 3 12 neg s

/-- `AC_R4_M3` (R418). -/
def execAcR4M3 (neg : Bool) (s : State) : Result := vlcCodeword 4 3 12 neg s

/-- `AC_R6_M2` (R419). -/
def execAcR6M2 (neg : Bool) (s : State) : Result := vlcCodeword 6 2 12 neg s

/-- `AC_R7_M2` (R420). -/
def execAcR7M2 (neg : Bool) (s : State) : Result := vlcCodeword 7 2 12 neg s

/-- `AC_R8_M2` (R421). -/
def execAcR8M2 (neg : Bool) (s : State) : Result := vlcCodeword 8 2 12 neg s

/-- `AC_R17_M1` (R422). -/
def execAcR17M1 (neg : Bool) (s : State) : Result := vlcCodeword 17 1 12 neg s

/-- `AC_R18_M1` (R423). -/
def execAcR18M1 (neg : Bool) (s : State) : Result := vlcCodeword 18 1 12 neg s

/-- `AC_R19_M1` (R424). -/
def execAcR19M1 (neg : Bool) (s : State) : Result := vlcCodeword 19 1 12 neg s

/-- `AC_R20_M1` (R425). -/
def execAcR20M1 (neg : Bool) (s : State) : Result := vlcCodeword 20 1 12 neg s

/-- `AC_R21_M1` (R426). -/
def execAcR21M1 (neg : Bool) (s : State) : Result := vlcCodeword 21 1 12 neg s

/-- `AC_R0_M12` (R427). -/
def execAcR0M12 (neg : Bool) (s : State) : Result := vlcCodeword 0 12 13 neg s

/-- `AC_R0_M13` (R428). -/
def execAcR0M13 (neg : Bool) (s : State) : Result := vlcCodeword 0 13 13 neg s

/-- `AC_R0_M14` (R429). -/
def execAcR0M14 (neg : Bool) (s : State) : Result := vlcCodeword 0 14 13 neg s

/-- `AC_R0_M15` (R430). -/
def execAcR0M15 (neg : Bool) (s : State) : Result := vlcCodeword 0 15 13 neg s

/-- `AC_R1_M6` (R431). -/
def execAcR1M6 (neg : Bool) (s : State) : Result := vlcCodeword 1 6 13 neg s

/-- `AC_R1_M7` (R432). -/
def execAcR1M7 (neg : Bool) (s : State) : Result := vlcCodeword 1 7 13 neg s

/-- `AC_R2_M5` (R433). -/
def execAcR2M5 (neg : Bool) (s : State) : Result := vlcCodeword 2 5 13 neg s

/-- `AC_R3_M4` (R434). -/
def execAcR3M4 (neg : Bool) (s : State) : Result := vlcCodeword 3 4 13 neg s

/-- `AC_R5_M3` (R435). -/
def execAcR5M3 (neg : Bool) (s : State) : Result := vlcCodeword 5 3 13 neg s

/-- `AC_R9_M2` (R436). -/
def execAcR9M2 (neg : Bool) (s : State) : Result := vlcCodeword 9 2 13 neg s

/-- `AC_R10_M2` (R437). -/
def execAcR10M2 (neg : Bool) (s : State) : Result := vlcCodeword 10 2 13 neg s

/-- `AC_R22_M1` (R438). -/
def execAcR22M1 (neg : Bool) (s : State) : Result := vlcCodeword 22 1 13 neg s

/-- `AC_R23_M1` (R439). -/
def execAcR23M1 (neg : Bool) (s : State) : Result := vlcCodeword 23 1 13 neg s

/-- `AC_R24_M1` (R440). -/
def execAcR24M1 (neg : Bool) (s : State) : Result := vlcCodeword 24 1 13 neg s

/-- `AC_R25_M1` (R441). -/
def execAcR25M1 (neg : Bool) (s : State) : Result := vlcCodeword 25 1 13 neg s

/-- `AC_R26_M1` (R442). -/
def execAcR26M1 (neg : Bool) (s : State) : Result := vlcCodeword 26 1 13 neg s

/-- `AC_R0_M16` (R443). -/
def execAcR0M16 (neg : Bool) (s : State) : Result := vlcCodeword 0 16 14 neg s

/-- `AC_R0_M17` (R444). -/
def execAcR0M17 (neg : Bool) (s : State) : Result := vlcCodeword 0 17 14 neg s

/-- `AC_R0_M18` (R445). -/
def execAcR0M18 (neg : Bool) (s : State) : Result := vlcCodeword 0 18 14 neg s

/-- `AC_R0_M19` (R446). -/
def execAcR0M19 (neg : Bool) (s : State) : Result := vlcCodeword 0 19 14 neg s

/-- `AC_R0_M20` (R447). -/
def execAcR0M20 (neg : Bool) (s : State) : Result := vlcCodeword 0 20 14 neg s

/-- `AC_R0_M21` (R448). -/
def execAcR0M21 (neg : Bool) (s : State) : Result := vlcCodeword 0 21 14 neg s

/-- `AC_R0_M22` (R449). -/
def execAcR0M22 (neg : Bool) (s : State) : Result := vlcCodeword 0 22 14 neg s

/-- `AC_R0_M23` (R450). -/
def execAcR0M23 (neg : Bool) (s : State) : Result := vlcCodeword 0 23 14 neg s

/-- `AC_R0_M24` (R451). -/
def execAcR0M24 (neg : Bool) (s : State) : Result := vlcCodeword 0 24 14 neg s

/-- `AC_R0_M25` (R452). -/
def execAcR0M25 (neg : Bool) (s : State) : Result := vlcCodeword 0 25 14 neg s

/-- `AC_R0_M26` (R453). -/
def execAcR0M26 (neg : Bool) (s : State) : Result := vlcCodeword 0 26 14 neg s

/-- `AC_R0_M27` (R454). -/
def execAcR0M27 (neg : Bool) (s : State) : Result := vlcCodeword 0 27 14 neg s

/-- `AC_R0_M28` (R455). -/
def execAcR0M28 (neg : Bool) (s : State) : Result := vlcCodeword 0 28 14 neg s

/-- `AC_R0_M29` (R456). -/
def execAcR0M29 (neg : Bool) (s : State) : Result := vlcCodeword 0 29 14 neg s

/-- `AC_R0_M30` (R457). -/
def execAcR0M30 (neg : Bool) (s : State) : Result := vlcCodeword 0 30 14 neg s

/-- `AC_R0_M31` (R458). -/
def execAcR0M31 (neg : Bool) (s : State) : Result := vlcCodeword 0 31 14 neg s

/-- `AC_R0_M32` (R459). -/
def execAcR0M32 (neg : Bool) (s : State) : Result := vlcCodeword 0 32 15 neg s

/-- `AC_R0_M33` (R460). -/
def execAcR0M33 (neg : Bool) (s : State) : Result := vlcCodeword 0 33 15 neg s

/-- `AC_R0_M34` (R461). -/
def execAcR0M34 (neg : Bool) (s : State) : Result := vlcCodeword 0 34 15 neg s

/-- `AC_R0_M35` (R462). -/
def execAcR0M35 (neg : Bool) (s : State) : Result := vlcCodeword 0 35 15 neg s

/-- `AC_R0_M36` (R463). -/
def execAcR0M36 (neg : Bool) (s : State) : Result := vlcCodeword 0 36 15 neg s

/-- `AC_R0_M37` (R464). -/
def execAcR0M37 (neg : Bool) (s : State) : Result := vlcCodeword 0 37 15 neg s

/-- `AC_R0_M38` (R465). -/
def execAcR0M38 (neg : Bool) (s : State) : Result := vlcCodeword 0 38 15 neg s

/-- `AC_R0_M39` (R466). -/
def execAcR0M39 (neg : Bool) (s : State) : Result := vlcCodeword 0 39 15 neg s

/-- `AC_R0_M40` (R467). -/
def execAcR0M40 (neg : Bool) (s : State) : Result := vlcCodeword 0 40 15 neg s

/-- `AC_R1_M8` (R468). -/
def execAcR1M8 (neg : Bool) (s : State) : Result := vlcCodeword 1 8 15 neg s

/-- `AC_R1_M9` (R469). -/
def execAcR1M9 (neg : Bool) (s : State) : Result := vlcCodeword 1 9 15 neg s

/-- `AC_R1_M10` (R470). -/
def execAcR1M10 (neg : Bool) (s : State) : Result := vlcCodeword 1 10 15 neg s

/-- `AC_R1_M11` (R471). -/
def execAcR1M11 (neg : Bool) (s : State) : Result := vlcCodeword 1 11 15 neg s

/-- `AC_R1_M12` (R472). -/
def execAcR1M12 (neg : Bool) (s : State) : Result := vlcCodeword 1 12 15 neg s

/-- `AC_R1_M13` (R473). -/
def execAcR1M13 (neg : Bool) (s : State) : Result := vlcCodeword 1 13 15 neg s

/-- `AC_R1_M14` (R474). -/
def execAcR1M14 (neg : Bool) (s : State) : Result := vlcCodeword 1 14 15 neg s

/-- `AC_R1_M15` (R475). -/
def execAcR1M15 (neg : Bool) (s : State) : Result := vlcCodeword 1 15 16 neg s

/-- `AC_R1_M16` (R476). -/
def execAcR1M16 (neg : Bool) (s : State) : Result := vlcCodeword 1 16 16 neg s

/-- `AC_R1_M17` (R477). -/
def execAcR1M17 (neg : Bool) (s : State) : Result := vlcCodeword 1 17 16 neg s

/-- `AC_R1_M18` (R478). -/
def execAcR1M18 (neg : Bool) (s : State) : Result := vlcCodeword 1 18 16 neg s

/-- `AC_R6_M3` (R479). -/
def execAcR6M3 (neg : Bool) (s : State) : Result := vlcCodeword 6 3 16 neg s

/-- `AC_R11_M2` (R480). -/
def execAcR11M2 (neg : Bool) (s : State) : Result := vlcCodeword 11 2 16 neg s

/-- `AC_R12_M2` (R481). -/
def execAcR12M2 (neg : Bool) (s : State) : Result := vlcCodeword 12 2 16 neg s

/-- `AC_R13_M2` (R482). -/
def execAcR13M2 (neg : Bool) (s : State) : Result := vlcCodeword 13 2 16 neg s

/-- `AC_R14_M2` (R483). -/
def execAcR14M2 (neg : Bool) (s : State) : Result := vlcCodeword 14 2 16 neg s

/-- `AC_R15_M2` (R484). -/
def execAcR15M2 (neg : Bool) (s : State) : Result := vlcCodeword 15 2 16 neg s

/-- `AC_R16_M2` (R485). -/
def execAcR16M2 (neg : Bool) (s : State) : Result := vlcCodeword 16 2 16 neg s

/-- `AC_R27_M1` (R486). -/
def execAcR27M1 (neg : Bool) (s : State) : Result := vlcCodeword 27 1 16 neg s

/-- `AC_R28_M1` (R487). -/
def execAcR28M1 (neg : Bool) (s : State) : Result := vlcCodeword 28 1 16 neg s

/-- `AC_R29_M1` (R488). -/
def execAcR29M1 (neg : Bool) (s : State) : Result := vlcCodeword 29 1 16 neg s

/-- `AC_R30_M1` (R489). -/
def execAcR30M1 (neg : Bool) (s : State) : Result := vlcCodeword 30 1 16 neg s

/-- `AC_R31_M1` (R490). -/
def execAcR31M1 (neg : Bool) (s : State) : Result := vlcCodeword 31 1 16 neg s

end Sys2Proof.Machine
end

