-- ==== Sys2Proof/Machine/Stream.lean ====
section
/-! DEFINITION. The loop of a running operation (47_host_interface.md R653, R654): what the core reads next, and the
micro-steps that alternate `decode_one` (R649) and the consumer of its code until the operation ends. -/

namespace Sys2Proof.Machine

/-! ## Supplied tables: codewords that are parameters, not instructions (00_scope.md R7; log 24) -/

/-- What the core finds next. -/
inductive Fetched where
  /-- An instruction: a codeword of the default tables, or the packed code that waits for the consumer. -/
  | instr (i : Instr)
  /-- A codeword of a supplied differential DC table (42_entropy_dc.md R303), or a title's own with a delta (R307). -/
  | literalDc (len : Nat) (delta : Int)
  /-- A title's own DC codeword with the DC itself (42_entropy_dc.md R307). -/
  | literalDcField (len : Nat) (d : BitVec 10)
  /-- A codeword of a supplied VLC table, or of a title format's escape (43_entropy_ac.md R365, R366, R370). -/
  | literalAc (len : Nat) (run : BitVec 6) (level : BitVec 10) (escape : Bool)
  /-- A title's escape that its own decoder calls a ZERO_ESCAPE (43_entropy_ac.md R365). -/
  | literalZeroEscape (len : Nat) (run : BitVec 6)
  /-- The upcoming bits are a proper prefix of a codeword (43_entropy_ac.md R351). -/
  | endOfStream
  /-- The upcoming bits begin no codeword (43_entropy_ac.md R351), or a title's own decoder says so (R365). -/
  | corrupt (cause : Cause) (value : CtxValue)
  deriving DecidableEq, Repr

/-- The classification of the bits against the default table of a context (43_entropy_ac.md R351). -/
def fetchDefault (cause : Cause) (c : Context) (w : Bits) : Fetched :=
  match decodeCodeword c w with
  | .found i _ => .instr i
  | .needMore => .endOfStream
  | .unmatched => .corrupt cause (.bits w)

/-- The codeword of a supplied differential DC table that the bits begin with. -/
def dcLiteral (table : List DcEntry) (w : Bits) : Option DcEntry :=
  table.find? (fun e => takeable e.code && (stripPrefix e.code w).isSome)

/-- The classification of the bits against a supplied differential DC table (42_entropy_dc.md R303). -/
def fetchDcLiteral (table : List DcEntry) (w : Bits) : Fetched :=
  match dcLiteral table w with
  | some e => .literalDc e.code.length e.delta
  | none =>
    if table.any (fun e => takeable e.code && agrees e.code w) then .endOfStream else .corrupt .unmatchedDc (.bits w)

/-- The two codewords of a row with the sign bit of 43_entropy_ac.md R366: the code and 0, positive, the code and 1,
negative. -/
def entryCodewords (e : VlcEntry) : List VlcCodeword :=
  [⟨e.code ++ [b0], e.run, vlcLevel e.magnitude.toNat false⟩, ⟨e.code ++ [b1], e.run, vlcLevel e.magnitude.toNat true⟩]

/-- The whole codewords of a title's VLC table (43_entropy_ac.md R370). -/
def titleCodewords : TitleVlc → List VlcCodeword
  | .signBit rows => rows.flatMap entryCodewords
  | .ownSigns rows => rows

/-- The longest codeword the bits begin with (43_entropy_ac.md, "match the longest literal prefix"), the first of equal
ones. -/
def vlcLiteral : List VlcCodeword → Bits → Option VlcCodeword
  | [], _ => none
  | c :: cs, w =>
    match takeable c.code && (stripPrefix c.code w).isSome, vlcLiteral cs w with
    | false, best => best
    | true, none => some c
    | true, some best => if best.code.length > c.code.length then some best else some c

/-- The classification of the bits against the whole codewords of a supplied table (43_entropy_ac.md R351).  The codeword is
no escape, so the zero-level check of R362 is not made on it: DESIGN CHOICE for a row of level 0 (log 24). -/
def fetchVlcLiteral (table : List VlcCodeword) (w : Bits) : Fetched :=
  match vlcLiteral table w with
  | some c => .literalAc c.code.length c.run c.level false
  | none => if table.any (fun c => takeable c.code && agrees c.code w) then .endOfStream else .corrupt .unmatchedVlc (.bits w)

/-- The escape prefix (30_encoding.md R160). -/
def escapePrefix : Bits := [b0, b0, b0, b0, b0, b1]

/-- The classification against the mainline's end of block and escape and a supplied `AC_VLC_TABLE`, in the order of
43_entropy_ac.md R352. -/
def fetchAcSupplied (table : List VlcCodeword) (w : Bits) : Fetched :=
  match classifyRows controlRows w with
  | .found i _ => .instr i
  | .needMore => match stripPrefix escapePrefix w, vlcLiteral table w with
    | none, some c => .literalAc c.code.length c.run c.level false
    | _, _ => .endOfStream
  | .unmatched => fetchVlcLiteral table w

/-- The level of a title's escape (43_entropy_ac.md R365), by the title's own decoder on the window after the prefix and the
run; the prefix, the run and the level are each one `Take` (20_memory.md R111).  `w` is the window of R351, which an
UNMATCHED_VLC records. -/
def fetchTitleEscape (f : TitleFormat) (run : BitVec 6) (level w : Bits) : Fetched :=
  match Config.titleEscape f.name level with
  | .level bits l => .literalAc (12 + (bits.val + 1)) run l true
  | .zeroEscape bits => .literalZeroEscape (12 + (bits.val + 1)) run
  | .endOfStream => .endOfStream
  | .unmatchedVlc => .corrupt .unmatchedVlc (.bits w)

/-- The classification of a title format's AC codewords (43_entropy_ac.md R352, R365, R370): the end of block, the
escape prefix with its run and the title's own level, then the title's table. -/
def fetchAcTitle (f : TitleFormat) (upcoming : Bits) : Fetched :=
  let w := upcoming.take window
  match decodeCodeword .acTitle w with
  | .found i _ => .instr i
  | .needMore | .unmatched =>
    match stripPrefix escapePrefix upcoming with
    | some rest => match splitExact 6 rest with
      | none => .endOfStream
      | some (run, level) => fetchTitleEscape f (BitVec.ofNat 6 (natOfBits run)) level w
    | none => match fetchVlcLiteral (titleCodewords f.vlc) w with
      | .corrupt cause value =>
        if agrees escapePrefix w || agrees [b1, b0] w then .endOfStream else .corrupt cause value
      | found => found

/-- A title's own DC codeword (42_entropy_dc.md R307): what its bits stand for, made into a fetched codeword by `found`. -/
def fetchDcTitle {α : Type} (found : Nat → α → Fetched) (r : TitleDcResult α) (w : Bits) : Fetched :=
  match r with
  | .code bits value => found (bits.val + 1) value
  | .endOfStream => .endOfStream
  | .unmatchedDc => .corrupt .unmatchedDc (.bits w)

/-- The DC codeword of the differential scheme (42_entropy_dc.md R303): a title's own (R307), else one of the table of the
block's context. -/
def fetchDcDiff (s : State) (c : Context) (table : Option (List DcEntry)) (w : Bits) : Fetched :=
  match ownDc s.params s.fmt, table with
  | some f, _ => fetchDcTitle .literalDc (Config.titleDcDelta f.name s.trk.role.isLuma w) w
  | none, some table => fetchDcLiteral table w
  | none, none => fetchDefault .unmatchedDc c w

/-- What the core reads next from the bitstream (47_host_interface.md R649, `decode_one`). -/
def fetchCodeword (s : State) (c : Context) (w : Bits) : Except Fault Fetched :=
  match c with
  | .dcShared => match ownDc s.params s.fmt with
    | none => .ok (fetchDefault .unmatchedDc .dcShared w)
    | some f => .ok (fetchDcTitle .literalDcField (Config.titleDc f.name s.trk.role.isLuma w) w)
  | .dcLuma => .ok (fetchDcDiff s .dcLuma s.params.dcDiffTableLuma w)
  | .dcChroma => .ok (fetchDcDiff s .dcChroma s.params.dcDiffTableChroma w)
  | .ac => match s.params.acVlcTable with
    | none => .ok (fetchDefault .unmatchedVlc .ac w)
    | some table => .ok (fetchAcSupplied (table.flatMap entryCodewords) w)
  | .acTitle => match s.fmt with
    | some (.title t) => match titleFormat? s.params t with
      | some f => .ok (fetchAcTitle f w)
      | none => .error .readOfNone
    | some .strShared | some .strDiff | some .prefix40 | none => .error .readOfNone
  | .codeFirst | .codeLater | .command => .error .notExpected

/-- What a running operation does next: the code that waits goes to the consumer, else the next codeword is read. -/
def fetchStream (s : State) : Except Fault Fetched :=
  match s.emitted with
  | some e => .ok (.instr (decodePacked e.first e.code.pack))
  | none => match context s with
    | .error f => .error f
    | .ok c => match s.hdr.body with
      | none => .error .readOfNone
      | some body => fetchCodeword s c (peek s body (windowOf c))

/-- Run what was fetched, an instruction by `ex`. -/
def runFetched (ex : Instr → State → Result) (f : Fetched) (s : State) : Result :=
  match f with
  | .instr i => ex i s
  | .literalDc len delta => dcDiffCodeword [.dcLuma, .dcChroma] len delta s
  | .literalDcField len d => dcFieldCodeword len d s
  | .literalAc len run level escape => acCodeword [.ac, .acTitle] len run level escape s
  | .literalZeroEscape len run => zeroEscapeCodeword len run s
  | .endOfStream => .next (raiseEndOfStream s)
  | .corrupt cause value => .next (raiseCorruption cause value s.bitPos s)

/-- The meanings of the codewords and of the packed codes; no host command stands in a bitstream. -/
def execStream (i : Instr) (s : State) : Result :=
  match i with
  | .mdecEob => execMdecEob s
  | .mdecDc q d => execMdecDc q d s
  | .mdecAc r l => execMdecAc r l s
  | .dcShared d => execDcShared d s
  | .dcDiffYS0 => execDcDiffYS0 s
  | .dcDiffYS1 v => execDcDiffYS1 v s
  | .dcDiffYS2 v => execDcDiffYS2 v s
  | .dcDiffYS3 v => execDcDiffYS3 v s
  | .dcDiffYS4 v => execDcDiffYS4 v s
  | .dcDiffYS5 v => execDcDiffYS5 v s
  | .dcDiffYS6 v => execDcDiffYS6 v s
  | .dcDiffYS7 v => execDcDiffYS7 v s
  | .dcDiffYS8 v => execDcDiffYS8 v s
  | .dcDiffCS0 => execDcDiffCS0 s
  | .dcDiffCS1 v => execDcDiffCS1 v s
  | .dcDiffCS2 v => execDcDiffCS2 v s
  | .dcDiffCS3 v => execDcDiffCS3 v s
  | .dcDiffCS4 v => execDcDiffCS4 v s
  | .dcDiffCS5 v => execDcDiffCS5 v s
  | .dcDiffCS6 v => execDcDiffCS6 v s
  | .dcDiffCS7 v => execDcDiffCS7 v s
  | .dcDiffCS8 v => execDcDiffCS8 v s
  | .acEob => execAcEob s
  | .acEscape r l => execAcEscape r l s
  | .acR0M1 neg => execAcR0M1 neg s
  | .acR1M1 neg => execAcR1M1 neg s
  | .acR0M2 neg => execAcR0M2 neg s
  | .acR2M1 neg => execAcR2M1 neg s
  | .acR0M3 neg => execAcR0M3 neg s
  | .acR3M1 neg => execAcR3M1 neg s
  | .acR4M1 neg => execAcR4M1 neg s
  | .acR1M2 neg => execAcR1M2 neg s
  | .acR5M1 neg => execAcR5M1 neg s
  | .acR6M1 neg => execAcR6M1 neg s
  | .acR7M1 neg => execAcR7M1 neg s
  | .acR0M4 neg => execAcR0M4 neg s
  | .acR2M2 neg => execAcR2M2 neg s
  | .acR8M1 neg => execAcR8M1 neg s
  | .acR9M1 neg => execAcR9M1 neg s
  | .acR0M5 neg => execAcR0M5 neg s
  | .acR0M6 neg => execAcR0M6 neg s
  | .acR1M3 neg => execAcR1M3 neg s
  | .acR3M2 neg => execAcR3M2 neg s
  | .acR10M1 neg => execAcR10M1 neg s
  | .acR11M1 neg => execAcR11M1 neg s
  | .acR12M1 neg => execAcR12M1 neg s
  | .acR13M1 neg => execAcR13M1 neg s
  | .acR0M7 neg => execAcR0M7 neg s
  | .acR1M4 neg => execAcR1M4 neg s
  | .acR2M3 neg => execAcR2M3 neg s
  | .acR4M2 neg => execAcR4M2 neg s
  | .acR5M2 neg => execAcR5M2 neg s
  | .acR14M1 neg => execAcR14M1 neg s
  | .acR15M1 neg => execAcR15M1 neg s
  | .acR16M1 neg => execAcR16M1 neg s
  | .acR0M8 neg => execAcR0M8 neg s
  | .acR0M9 neg => execAcR0M9 neg s
  | .acR0M10 neg => execAcR0M10 neg s
  | .acR0M11 neg => execAcR0M11 neg s
  | .acR1M5 neg => execAcR1M5 neg s
  | .acR2M4 neg => execAcR2M4 neg s
  | .acR3M3 neg => execAcR3M3 neg s
  | .acR4M3 neg => execAcR4M3 neg s
  | .acR6M2 neg => execAcR6M2 neg s
  | .acR7M2 neg => execAcR7M2 neg s
  | .acR8M2 neg => execAcR8M2 neg s
  | .acR17M1 neg => execAcR17M1 neg s
  | .acR18M1 neg => execAcR18M1 neg s
  | .acR19M1 neg => execAcR19M1 neg s
  | .acR20M1 neg => execAcR20M1 neg s
  | .acR21M1 neg => execAcR21M1 neg s
  | .acR0M12 neg => execAcR0M12 neg s
  | .acR0M13 neg => execAcR0M13 neg s
  | .acR0M14 neg => execAcR0M14 neg s
  | .acR0M15 neg => execAcR0M15 neg s
  | .acR1M6 neg => execAcR1M6 neg s
  | .acR1M7 neg => execAcR1M7 neg s
  | .acR2M5 neg => execAcR2M5 neg s
  | .acR3M4 neg => execAcR3M4 neg s
  | .acR5M3 neg => execAcR5M3 neg s
  | .acR9M2 neg => execAcR9M2 neg s
  | .acR10M2 neg => execAcR10M2 neg s
  | .acR22M1 neg => execAcR22M1 neg s
  | .acR23M1 neg => execAcR23M1 neg s
  | .acR24M1 neg => execAcR24M1 neg s
  | .acR25M1 neg => execAcR25M1 neg s
  | .acR26M1 neg => execAcR26M1 neg s
  | .acR0M16 neg => execAcR0M16 neg s
  | .acR0M17 neg => execAcR0M17 neg s
  | .acR0M18 neg => execAcR0M18 neg s
  | .acR0M19 neg => execAcR0M19 neg s
  | .acR0M20 neg => execAcR0M20 neg s
  | .acR0M21 neg => execAcR0M21 neg s
  | .acR0M22 neg => execAcR0M22 neg s
  | .acR0M23 neg => execAcR0M23 neg s
  | .acR0M24 neg => execAcR0M24 neg s
  | .acR0M25 neg => execAcR0M25 neg s
  | .acR0M26 neg => execAcR0M26 neg s
  | .acR0M27 neg => execAcR0M27 neg s
  | .acR0M28 neg => execAcR0M28 neg s
  | .acR0M29 neg => execAcR0M29 neg s
  | .acR0M30 neg => execAcR0M30 neg s
  | .acR0M31 neg => execAcR0M31 neg s
  | .acR0M32 neg => execAcR0M32 neg s
  | .acR0M33 neg => execAcR0M33 neg s
  | .acR0M34 neg => execAcR0M34 neg s
  | .acR0M35 neg => execAcR0M35 neg s
  | .acR0M36 neg => execAcR0M36 neg s
  | .acR0M37 neg => execAcR0M37 neg s
  | .acR0M38 neg => execAcR0M38 neg s
  | .acR0M39 neg => execAcR0M39 neg s
  | .acR0M40 neg => execAcR0M40 neg s
  | .acR1M8 neg => execAcR1M8 neg s
  | .acR1M9 neg => execAcR1M9 neg s
  | .acR1M10 neg => execAcR1M10 neg s
  | .acR1M11 neg => execAcR1M11 neg s
  | .acR1M12 neg => execAcR1M12 neg s
  | .acR1M13 neg => execAcR1M13 neg s
  | .acR1M14 neg => execAcR1M14 neg s
  | .acR1M15 neg => execAcR1M15 neg s
  | .acR1M16 neg => execAcR1M16 neg s
  | .acR1M17 neg => execAcR1M17 neg s
  | .acR1M18 neg => execAcR1M18 neg s
  | .acR6M3 neg => execAcR6M3 neg s
  | .acR11M2 neg => execAcR11M2 neg s
  | .acR12M2 neg => execAcR12M2 neg s
  | .acR13M2 neg => execAcR13M2 neg s
  | .acR14M2 neg => execAcR14M2 neg s
  | .acR15M2 neg => execAcR15M2 neg s
  | .acR16M2 neg => execAcR16M2 neg s
  | .acR27M1 neg => execAcR27M1 neg s
  | .acR28M1 neg => execAcR28M1 neg s
  | .acR29M1 neg => execAcR29M1 neg s
  | .acR30M1 neg => execAcR30M1 neg s
  | .acR31M1 neg => execAcR31M1 neg s
  | .configure _ _ _ _ _ => .fault .notExpected
  | .setQuant _ => .fault .notExpected
  | .loadFrame _ => .fault .notExpected
  | .readCode => .fault .notExpected
  | .decodeFrame => .fault .notExpected
  | .readRgb _ _ _ => .fault .notExpected
  | .readYcbcr420 _ _ => .fault .notExpected
  | .queryStatus => .fault .notExpected

/-- One micro-step of the running operation. -/
def streamStep (s : State) : Result :=
  match fetchStream s with
  | .error f => .fault f
  | .ok f => runFetched execStream f s

/-- The micro-steps of an operation until it ends, at most `fuel` of them. -/
def runLoop : Nat → State → Result
  | 0, s => .next s
  | fuel + 1, s =>
    if s.running = .idle then .next s
    else match streamStep s with
      | .next t => runLoop fuel t
      | .fault f => .fault f
      | .refused r => .refused r

/-- More micro-steps than an operation can take: every codeword has a bit (70_reset_and_hazards.md R770). -/
def loopFuel (s : State) : Nat := 2 * (s.streamBits - s.bitPos) + 3

end Sys2Proof.Machine
end

