-- ==== Sys2Proof/Machine/HostOps.lean ====
section
/-! DEFINITION. The meanings of the eight host commands (47_host_interface.md R650 to R657), each one atomic step
(70_reset_and_hazards.md R770). -/

namespace Sys2Proof.Machine

/-- An operation starts only when no other runs (70_reset_and_hazards.md R760; log 28). -/
def whenIdle (s : State) (k : Result) : Result :=
  if s.running = .idle then k else .fault .operationOverlap

/-- `return REFUSED` (47_host_interface.md R648): nothing but the outcome changes (log 14). -/
def refuse (s : State) : Result := .next { s with reply := some .refused }

/-! ## CONFIGURE, SET_QUANT -/

/-- The state after `CONFIGURE` (70_reset_and_hazards.md R750); the parameters, the host's requests and the host's
arrays are no state of the core. -/
def afterConfigure (cfg : Cfg) (s : State) : State where
  params := s.params
  hostIn := s.hostIn
  reply := s.reply
  running := .idle
  emitted := none
  configured := true
  cfg := cfg
  qt := s.params.quantDefault
  qtActive := s.params.quantDefault
  inBuf := []
  fmt := none
  hdr := Hdr.empty
  bitPos := 0
  streamBits := 0
  dstate := .idle
  trk := Tracker.initial
  vpos := 0
  prevDc := ⟨0, 0, 0⟩
  degenCount := 0
  pendRun := none
  blk := Vector.replicate 64 (zeroSample cfg.variant)
  nzCount := 0
  lastNz := none
  blkQscale := 0#6
  rpos := 0
  planeY := []
  planeCb := []
  planeCr := []
  status := Status.clear
  frameMode := .none
  outRgb := s.outRgb
  outYuv := s.outYuv

/-- The upsampler is NEAREST or a kernel the parameter defines (47_host_interface.md R650). -/
def upsamplerDefined (p : Params) : Upsampler → Bool
  | .nearest => true
  | .kernel k => p.kernels.contains k

/-- `CONFIGURE` (47_host_interface.md R650). -/
def execConfigure (width height : Int) (variant : Variant) (filterMerge : Bool) (upsampler : Upsampler)
    (s : State) : Result :=
  whenIdle s <|
    if ¬ (1 ≤ width ∧ width ≤ s.params.maxDim.toNat ∧ 1 ≤ height ∧ height ≤ s.params.maxDim.toNat) then refuse s
    else if upsamplerDefined s.params upsampler = false then refuse s
    else
      .next { afterConfigure ⟨BitVec.ofInt 16 width, BitVec.ofInt 16 height, variant, filterMerge, upsampler⟩ s with
        reply := some .ok }

/-- An entry of a host's table, if it is in 0..255 (47_host_interface.md R651). -/
def quantEntry (v : Int) : Option Byte := if 0 ≤ v ∧ v ≤ 255 then some (BitVec.ofInt 8 v) else none

/-- The entries of a host's table, if all are in 0..255 (47_host_interface.md R651). -/
def quantEntries : List Int → Option (List Byte)
  | [] => some []
  | v :: vs => match quantEntry v, quantEntries vs with
    | some b, some bs => some (b :: bs)
    | _, _ => none

/-- `SET_QUANT` (47_host_interface.md R651). -/
def execSetQuant (table : List Int) (s : State) : Result :=
  whenIdle s <|
    if s.configured = false then refuse s
    else match quantEntries table with
      | none => refuse s
      | some entries =>
        if h : entries.length = 64 then .next { s with qt := ⟨entries.toArray, by simp [h]⟩, reply := some .ok }
        else refuse s

/-! ## LOAD_FRAME -/

/-- The state at the start of a frame, before its header is identified (70_reset_and_hazards.md R752). -/
def frameStart (bytes : List Byte) (s : State) : State :=
  { s with
    inBuf := bytes
    qtActive := s.qt
    fmt := none
    hdr := Hdr.empty
    bitPos := 0
    streamBits := 0
    trk := Tracker.initial
    vpos := 0
    prevDc := ⟨0, 0, 0⟩
    degenCount := 0
    pendRun := none
    status := Status.clear
    frameMode := .none }

/-- The header's identification and parse: the state with what it has written, and its error if there is one. -/
structure HeaderResult where
  state : State
  error : Option (Cause × Option CtxValue)

/-- `parse_mainline(b)` (41_entropy_header.md R255), with what it has written before an error (log 18). -/
def parseMainline (b : Nat) (s : State) : HeaderResult :=
  let q := (memRead16 s.inBuf (b + 4)).getD 0#16
  let v := (memRead16 s.inBuf (b + 6)).getD 0#16
  let s := { s with hdr := { s.hdr with rlcCount := memRead16 s.inBuf b, marker := memRead16 s.inBuf (b + 2) } }
  if q = 0#16 then ⟨s, some (.zeroQscale, some (.number q.toNat))⟩
  else if q.toNat > 63 then ⟨s, some (.qscaleRange, some (.number q.toNat))⟩
  else if v = 3#16 ∨ v = 2#16 ∨ s.params.extraSharedVersions.contains v then
    let mode := if v = 3#16 then DcMode.diff else DcMode.shared
    ⟨{ s with hdr := { s.hdr with dcMode := some mode, qscaleL := some (q.setWidth 6), qscaleC := some (q.setWidth 6),
                                  version := some v, acTable := some .main, body := some (b + 8) } }, none⟩
  else ⟨s, some (.badVersion, some (.number v.toNat))⟩

/-- The title format that matches, in list order (41_entropy_header.md R251). -/
def matchTitle (s : State) : Option TitleFormat :=
  s.params.titleFormats.find? (fun f => Config.titleMatch f.name f.markerRequired (s.inBuf.take 50) s.inBuf.length)

/-- `HDR.DCMODE` of a title format: SHARED by default (42_entropy_dc.md R307), else what its parser writes
(41_entropy_header.md R256). -/
def titleDcMode : TitleDcScheme → DcMode → DcMode
  | .shared, _ => .shared
  | .parsed, mode | .own, mode => mode

/-- `T.parse` (41_entropy_header.md R256).  `HDR.MARKER` is 0x3800 where the format requires it (10_state.md R59).
DESIGN CHOICE (log 13): after an error of the parser every field of HDR holds none, since no rule says which of them it
had written. -/
def parseTitle (f : TitleFormat) (s : State) : HeaderResult :=
  let s := { s with fmt := some (.title f.name) }
  match Config.titleParse f.name s.inBuf with
  | .corrupt e => ⟨s, some (e.cause, some (.number e.value))⟩
  | .ok h =>
    ⟨{ s with hdr :=
        { rlcCount := some h.rlcCount
          marker := some (if f.markerRequired then 0x3800#16 else h.marker)
          qscaleL := some (BitVec.ofNat 6 (h.qscaleL.val + 1))
          qscaleC := some (BitVec.ofNat 6 (h.qscaleC.val + 1))
          version := some h.version
          dcMode := some (titleDcMode f.dc h.dcMode)
          acTable := some f.acTable
          body := some h.body } }, none⟩

/-- The format of a mainline frame at base 0 (41_entropy_header.md R251, its last line). -/
def mainlineFormat : Option DcMode → Fmt
  | some .diff => .strDiff
  | some .shared | none => .strShared

/-- Identification and parse (41_entropy_header.md R251), the layouts tried in its order. -/
def identify (s : State) : HeaderResult :=
  if 8 ≤ s.inBuf.length ∧ memRead16 s.inBuf 2 = some 0x3800#16 then
    let r := parseMainline 0 s
    match r.error with
    | some e => ⟨r.state, some e⟩
    | none => ⟨{ r.state with fmt := some (mainlineFormat r.state.hdr.dcMode) }, none⟩
  else if 48 ≤ s.inBuf.length ∧ memRead16 s.inBuf 42 = some 0x3800#16 then
    parseMainline 40 { s with fmt := some .prefix40 }
  else match matchTitle s with
    | some f => parseTitle f s
    | none => ⟨s, some (.unrecognizedHeader,
        if 4 ≤ s.inBuf.length then (memRead16 s.inBuf 2).map (fun w => .number w.toNat) else none)⟩

/-- The context of an error of the HEADER phase (60_exceptions.md R705). -/
def headerCtx (s : State) (value : Option CtxValue) : Ctx where
  phase := .header
  fmt := s.fmt
  mbIndex := none
  mbPixel := none
  role := none
  codesInBlock := none
  bitPos := none
  value := value

/-- The bit reader set up after a good header, and the frame begun (41_entropy_header.md R258, 20_memory.md R106). -/
def beginStream (s : State) : State :=
  let bytes := s.inBuf.length - s.hdr.body.getD 0
  let s := { s with bitPos := 0, streamBits := 16 * (bytes / 2),
                    dstate := if s.cfg.mbCount = 0 then .done else .active }
  if bytes % 2 = 1 then warnPartialUnit s else s

/-- `LOAD_FRAME` (47_host_interface.md R652). -/
def execLoadFrame (bytes : List Byte) (s : State) : Result :=
  whenIdle s <|
    if s.configured = false then refuse s
    else
      let r := identify (frameStart bytes s)
      match r.error with
      | some (cause, value) =>
        let e := FrameError.readCorruption cause (headerCtx r.state value)
        .next { recordError e r.state with reply := some e.reply }
      | none => .next { beginStream r.state with reply := some .ok }

/-! ## READ_CODE, DECODE_FRAME -/

/-- The loop of an operation begins. -/
def startLoop (op : Running) (s : State) : State := { s with running := op, emitted := none }

/-- Return the recorded error (60_exceptions.md R712). -/
def returnRecorded (s : State) : Result :=
  match recordedReply s with
  | some r => .next { s with reply := some r }
  | none => .fault .readOfNone

/-- `READ_CODE` (47_host_interface.md R653). -/
def execReadCode (s : State) : Result :=
  whenIdle s <|
    if s.configured = false ∨ s.dstate = .idle ∨ s.frameMode = .pixels then refuse s
    else
      let s := { s with frameMode := .codes }
      match s.dstate with
      | .done => .next { s with reply := some .done }
      | .failed => returnRecorded s
      | .active | .idle => runLoop (loopFuel s) (startLoop .readCode s)

/-- `DECODE_FRAME` (47_host_interface.md R654). -/
def execDecodeFrame (s : State) : Result :=
  whenIdle s <|
    if s.configured = false ∨ s.dstate = .idle ∨ s.frameMode ≠ .none then refuse s
    else
      let s := { s with frameMode := .pixels }
      match s.dstate with
      | .failed => returnRecorded (zeroFillFrom 0 .cr s)
      | .done => .next (finish .ok (endFrame s))
      | .active | .idle => runLoop (loopFuel s) (startLoop .decodeFrame s)

/-! ## READ_RGB, READ_YCBCR420, QUERY_STATUS -/

/-- `READ_RGB` (47_host_interface.md R655) into an array of `len` pixels. -/
def execReadRgb (len offset stride : Nat) (s : State) : Result :=
  whenIdle s <|
    if s.configured = false then refuse s
    else if stride < s.cfg.width.toNat ∨
        offset + (s.cfg.height.toNat - 1) * stride + s.cfg.width.toNat > len then refuse s
    else .next { s with outRgb := rgbWrites s offset stride s.outRgb, reply := some .ok }

/-- The samples of the 4:2:0 output (47_host_interface.md R656). -/
def yuvLength (c : Cfg) : Nat :=
  c.width.toNat * c.height.toNat + 2 * (c.width.toNat / 2) * (c.height.toNat / 2)

/-- `READ_YCBCR420` (47_host_interface.md R656) into an array of `len` samples. -/
def execReadYcbcr420 (len : Nat) (colorspace : Colorspace) (s : State) : Result :=
  whenIdle s <|
    if s.configured = false then refuse s
    else if s.cfg.width.toNat % 2 = 1 ∨ s.cfg.height.toNat % 2 = 1 then refuse s
    else if yuvLength s.cfg > len then refuse s
    else .next { s with outYuv := writeFrom (yuvOutput s colorspace) 0 s.outYuv, reply := some .ok }

/-- The record `QUERY_STATUS` returns (47_host_interface.md R657; 70_reset_and_hazards.md R751). -/
def statusRecord (s : State) : StatusRecord where
  configured := s.configured
  body :=
    if s.configured then
      some
        { dstate := s.dstate
          frameMode := s.frameMode
          fmt := s.fmt
          hdr := s.hdr
          streamBits := s.streamBits
          bitPos := s.bitPos
          status := s.status
          trk := s.trk
          mbPixel := s.cfg.mbPixel s.trk.mbIndex }
    else none

/-- `QUERY_STATUS` (47_host_interface.md R657). -/
def execQueryStatus (s : State) : Result :=
  whenIdle s <| .next { s with reply := some (.status (statusRecord s)) }

end Sys2Proof.Machine
end

