-- ==== Sys2Proof/Machine/Dispatch.lean ====
section
/-! DEFINITION. The dispatch: one arm for each row of spec/opcode_table.json. -/

namespace Sys2Proof.Machine

def exec (i : Instr) (s : State) : Host.Outcome State Fault Refusal :=
  match i with
  | .mdecEob => Sys2Proof.Machine.execMdecEob s
  | .mdecDc q d => Sys2Proof.Machine.execMdecDc q d s
  | .mdecAc r l => Sys2Proof.Machine.execMdecAc r l s
  | .dcShared d => Sys2Proof.Machine.execDcShared d s
  | .dcDiffYS0 => Sys2Proof.Machine.execDcDiffYS0 s
  | .dcDiffYS1 v => Sys2Proof.Machine.execDcDiffYS1 v s
  | .dcDiffYS2 v => Sys2Proof.Machine.execDcDiffYS2 v s
  | .dcDiffYS3 v => Sys2Proof.Machine.execDcDiffYS3 v s
  | .dcDiffYS4 v => Sys2Proof.Machine.execDcDiffYS4 v s
  | .dcDiffYS5 v => Sys2Proof.Machine.execDcDiffYS5 v s
  | .dcDiffYS6 v => Sys2Proof.Machine.execDcDiffYS6 v s
  | .dcDiffYS7 v => Sys2Proof.Machine.execDcDiffYS7 v s
  | .dcDiffYS8 v => Sys2Proof.Machine.execDcDiffYS8 v s
  | .dcDiffCS0 => Sys2Proof.Machine.execDcDiffCS0 s
  | .dcDiffCS1 v => Sys2Proof.Machine.execDcDiffCS1 v s
  | .dcDiffCS2 v => Sys2Proof.Machine.execDcDiffCS2 v s
  | .dcDiffCS3 v => Sys2Proof.Machine.execDcDiffCS3 v s
  | .dcDiffCS4 v => Sys2Proof.Machine.execDcDiffCS4 v s
  | .dcDiffCS5 v => Sys2Proof.Machine.execDcDiffCS5 v s
  | .dcDiffCS6 v => Sys2Proof.Machine.execDcDiffCS6 v s
  | .dcDiffCS7 v => Sys2Proof.Machine.execDcDiffCS7 v s
  | .dcDiffCS8 v => Sys2Proof.Machine.execDcDiffCS8 v s
  | .acEob => Sys2Proof.Machine.execAcEob s
  | .acEscape r l => Sys2Proof.Machine.execAcEscape r l s
  | .acR0M1 neg => Sys2Proof.Machine.execAcR0M1 neg s
  | .acR1M1 neg => Sys2Proof.Machine.execAcR1M1 neg s
  | .acR0M2 neg => Sys2Proof.Machine.execAcR0M2 neg s
  | .acR2M1 neg => Sys2Proof.Machine.execAcR2M1 neg s
  | .acR0M3 neg => Sys2Proof.Machine.execAcR0M3 neg s
  | .acR3M1 neg => Sys2Proof.Machine.execAcR3M1 neg s
  | .acR4M1 neg => Sys2Proof.Machine.execAcR4M1 neg s
  | .acR1M2 neg => Sys2Proof.Machine.execAcR1M2 neg s
  | .acR5M1 neg => Sys2Proof.Machine.execAcR5M1 neg s
  | .acR6M1 neg => Sys2Proof.Machine.execAcR6M1 neg s
  | .acR7M1 neg => Sys2Proof.Machine.execAcR7M1 neg s
  | .acR0M4 neg => Sys2Proof.Machine.execAcR0M4 neg s
  | .acR2M2 neg => Sys2Proof.Machine.execAcR2M2 neg s
  | .acR8M1 neg => Sys2Proof.Machine.execAcR8M1 neg s
  | .acR9M1 neg => Sys2Proof.Machine.execAcR9M1 neg s
  | .acR0M5 neg => Sys2Proof.Machine.execAcR0M5 neg s
  | .acR0M6 neg => Sys2Proof.Machine.execAcR0M6 neg s
  | .acR1M3 neg => Sys2Proof.Machine.execAcR1M3 neg s
  | .acR3M2 neg => Sys2Proof.Machine.execAcR3M2 neg s
  | .acR10M1 neg => Sys2Proof.Machine.execAcR10M1 neg s
  | .acR11M1 neg => Sys2Proof.Machine.execAcR11M1 neg s
  | .acR12M1 neg => Sys2Proof.Machine.execAcR12M1 neg s
  | .acR13M1 neg => Sys2Proof.Machine.execAcR13M1 neg s
  | .acR0M7 neg => Sys2Proof.Machine.execAcR0M7 neg s
  | .acR1M4 neg => Sys2Proof.Machine.execAcR1M4 neg s
  | .acR2M3 neg => Sys2Proof.Machine.execAcR2M3 neg s
  | .acR4M2 neg => Sys2Proof.Machine.execAcR4M2 neg s
  | .acR5M2 neg => Sys2Proof.Machine.execAcR5M2 neg s
  | .acR14M1 neg => Sys2Proof.Machine.execAcR14M1 neg s
  | .acR15M1 neg => Sys2Proof.Machine.execAcR15M1 neg s
  | .acR16M1 neg => Sys2Proof.Machine.execAcR16M1 neg s
  | .acR0M8 neg => Sys2Proof.Machine.execAcR0M8 neg s
  | .acR0M9 neg => Sys2Proof.Machine.execAcR0M9 neg s
  | .acR0M10 neg => Sys2Proof.Machine.execAcR0M10 neg s
  | .acR0M11 neg => Sys2Proof.Machine.execAcR0M11 neg s
  | .acR1M5 neg => Sys2Proof.Machine.execAcR1M5 neg s
  | .acR2M4 neg => Sys2Proof.Machine.execAcR2M4 neg s
  | .acR3M3 neg => Sys2Proof.Machine.execAcR3M3 neg s
  | .acR4M3 neg => Sys2Proof.Machine.execAcR4M3 neg s
  | .acR6M2 neg => Sys2Proof.Machine.execAcR6M2 neg s
  | .acR7M2 neg => Sys2Proof.Machine.execAcR7M2 neg s
  | .acR8M2 neg => Sys2Proof.Machine.execAcR8M2 neg s
  | .acR17M1 neg => Sys2Proof.Machine.execAcR17M1 neg s
  | .acR18M1 neg => Sys2Proof.Machine.execAcR18M1 neg s
  | .acR19M1 neg => Sys2Proof.Machine.execAcR19M1 neg s
  | .acR20M1 neg => Sys2Proof.Machine.execAcR20M1 neg s
  | .acR21M1 neg => Sys2Proof.Machine.execAcR21M1 neg s
  | .acR0M12 neg => Sys2Proof.Machine.execAcR0M12 neg s
  | .acR0M13 neg => Sys2Proof.Machine.execAcR0M13 neg s
  | .acR0M14 neg => Sys2Proof.Machine.execAcR0M14 neg s
  | .acR0M15 neg => Sys2Proof.Machine.execAcR0M15 neg s
  | .acR1M6 neg => Sys2Proof.Machine.execAcR1M6 neg s
  | .acR1M7 neg => Sys2Proof.Machine.execAcR1M7 neg s
  | .acR2M5 neg => Sys2Proof.Machine.execAcR2M5 neg s
  | .acR3M4 neg => Sys2Proof.Machine.execAcR3M4 neg s
  | .acR5M3 neg => Sys2Proof.Machine.execAcR5M3 neg s
  | .acR9M2 neg => Sys2Proof.Machine.execAcR9M2 neg s
  | .acR10M2 neg => Sys2Proof.Machine.execAcR10M2 neg s
  | .acR22M1 neg => Sys2Proof.Machine.execAcR22M1 neg s
  | .acR23M1 neg => Sys2Proof.Machine.execAcR23M1 neg s
  | .acR24M1 neg => Sys2Proof.Machine.execAcR24M1 neg s
  | .acR25M1 neg => Sys2Proof.Machine.execAcR25M1 neg s
  | .acR26M1 neg => Sys2Proof.Machine.execAcR26M1 neg s
  | .acR0M16 neg => Sys2Proof.Machine.execAcR0M16 neg s
  | .acR0M17 neg => Sys2Proof.Machine.execAcR0M17 neg s
  | .acR0M18 neg => Sys2Proof.Machine.execAcR0M18 neg s
  | .acR0M19 neg => Sys2Proof.Machine.execAcR0M19 neg s
  | .acR0M20 neg => Sys2Proof.Machine.execAcR0M20 neg s
  | .acR0M21 neg => Sys2Proof.Machine.execAcR0M21 neg s
  | .acR0M22 neg => Sys2Proof.Machine.execAcR0M22 neg s
  | .acR0M23 neg => Sys2Proof.Machine.execAcR0M23 neg s
  | .acR0M24 neg => Sys2Proof.Machine.execAcR0M24 neg s
  | .acR0M25 neg => Sys2Proof.Machine.execAcR0M25 neg s
  | .acR0M26 neg => Sys2Proof.Machine.execAcR0M26 neg s
  | .acR0M27 neg => Sys2Proof.Machine.execAcR0M27 neg s
  | .acR0M28 neg => Sys2Proof.Machine.execAcR0M28 neg s
  | .acR0M29 neg => Sys2Proof.Machine.execAcR0M29 neg s
  | .acR0M30 neg => Sys2Proof.Machine.execAcR0M30 neg s
  | .acR0M31 neg => Sys2Proof.Machine.execAcR0M31 neg s
  | .acR0M32 neg => Sys2Proof.Machine.execAcR0M32 neg s
  | .acR0M33 neg => Sys2Proof.Machine.execAcR0M33 neg s
  | .acR0M34 neg => Sys2Proof.Machine.execAcR0M34 neg s
  | .acR0M35 neg => Sys2Proof.Machine.execAcR0M35 neg s
  | .acR0M36 neg => Sys2Proof.Machine.execAcR0M36 neg s
  | .acR0M37 neg => Sys2Proof.Machine.execAcR0M37 neg s
  | .acR0M38 neg => Sys2Proof.Machine.execAcR0M38 neg s
  | .acR0M39 neg => Sys2Proof.Machine.execAcR0M39 neg s
  | .acR0M40 neg => Sys2Proof.Machine.execAcR0M40 neg s
  | .acR1M8 neg => Sys2Proof.Machine.execAcR1M8 neg s
  | .acR1M9 neg => Sys2Proof.Machine.execAcR1M9 neg s
  | .acR1M10 neg => Sys2Proof.Machine.execAcR1M10 neg s
  | .acR1M11 neg => Sys2Proof.Machine.execAcR1M11 neg s
  | .acR1M12 neg => Sys2Proof.Machine.execAcR1M12 neg s
  | .acR1M13 neg => Sys2Proof.Machine.execAcR1M13 neg s
  | .acR1M14 neg => Sys2Proof.Machine.execAcR1M14 neg s
  | .acR1M15 neg => Sys2Proof.Machine.execAcR1M15 neg s
  | .acR1M16 neg => Sys2Proof.Machine.execAcR1M16 neg s
  | .acR1M17 neg => Sys2Proof.Machine.execAcR1M17 neg s
  | .acR1M18 neg => Sys2Proof.Machine.execAcR1M18 neg s
  | .acR6M3 neg => Sys2Proof.Machine.execAcR6M3 neg s
  | .acR11M2 neg => Sys2Proof.Machine.execAcR11M2 neg s
  | .acR12M2 neg => Sys2Proof.Machine.execAcR12M2 neg s
  | .acR13M2 neg => Sys2Proof.Machine.execAcR13M2 neg s
  | .acR14M2 neg => Sys2Proof.Machine.execAcR14M2 neg s
  | .acR15M2 neg => Sys2Proof.Machine.execAcR15M2 neg s
  | .acR16M2 neg => Sys2Proof.Machine.execAcR16M2 neg s
  | .acR27M1 neg => Sys2Proof.Machine.execAcR27M1 neg s
  | .acR28M1 neg => Sys2Proof.Machine.execAcR28M1 neg s
  | .acR29M1 neg => Sys2Proof.Machine.execAcR29M1 neg s
  | .acR30M1 neg => Sys2Proof.Machine.execAcR30M1 neg s
  | .acR31M1 neg => Sys2Proof.Machine.execAcR31M1 neg s
  | .configure width height variant filterMerge upsampler => Sys2Proof.Machine.execConfigure width height variant filterMerge upsampler s
  | .setQuant table => Sys2Proof.Machine.execSetQuant table s
  | .loadFrame bytes => Sys2Proof.Machine.execLoadFrame bytes s
  | .readCode => Sys2Proof.Machine.execReadCode s
  | .decodeFrame => Sys2Proof.Machine.execDecodeFrame s
  | .readRgb len offset stride => Sys2Proof.Machine.execReadRgb len offset stride s
  | .readYcbcr420 len colorspace => Sys2Proof.Machine.execReadYcbcr420 len colorspace s
  | .queryStatus => Sys2Proof.Machine.execQueryStatus s

end Sys2Proof.Machine
end

