-- ==== Sys2Proof/Machine/Fetch.lean ====
section
/-! DEFINITION. Where a step's instruction comes from: the host's next request between operations (log 1), the
bitstream inside one; and how an instruction's word is placed there (logs 2, 19). -/

namespace Sys2Proof.Machine

/-- The host's next request, decoded, and the state without it (70_reset_and_hazards.md R779: none while the host
issues nothing). -/
def nextRequest (s : State) : Option (Except CommandError Instr × State) :=
  match s.hostIn with
  | [] => none
  | request :: rest => some (decodeCommand request, { s with hostIn := rest })

/-- A step between operations, its command run by `ex`: a request that is no command is REFUSED
(47_host_interface.md R658; 60_exceptions.md R710; log 26). -/
def hostStep (ex : Instr → State → Result) (s : State) : Result :=
  match nextRequest s with
  | none => .next s
  | some (.error _, t) => refuse t
  | some (.ok i, t) => ex i t

/-- A step inside an operation, its codeword or packed code run by `ex`. -/
def operationStep (ex : Instr → State → Result) (s : State) : Result :=
  match fetchStream s with
  | .error f => .fault f
  | .ok f => runFetched ex f s

/-! ## Placing an instruction's word (log 2) -/

/-- The request of a command's word, to be taken next. -/
def placeRequest (w : Nat) (s : State) : State :=
  { s with running := .idle, emitted := none, hostIn := tableRequest w :: s.hostIn }

/-- The bytes of a bit string as 16-bit little-endian units, most significant bit first (20_memory.md R105, R107),
the last unit filled with zeros; at most `n` units. -/
def bytesOfBits : Nat → Bits → List Byte
  | 0, _ => []
  | n + 1, bs =>
    let unit := BitVec.ofNat 16 (natOfBits ((bs ++ List.replicate 16 false).take 16))
    unit.extractLsb' 0 8 :: unit.extractLsb' 8 8 :: bytesOfBits n (bs.drop 16)

/-- A mainline header of qscale 1 (41_entropy_header.md R255). -/
def placedHeader (mode : DcMode) : List Byte :=
  [0x00#8, 0x00#8, 0x00#8, 0x38#8, 0x01#8, 0x00#8, (match mode with | .shared => 0x02#8 | .diff => 0x03#8), 0x00#8]

/-- A frame in coefficient mode whose `READ_CODE` runs, with these bytes of bitstream, at a position of the tracker. -/
def placeFrame (mode : DcMode) (body : List Byte) (trk : Tracker) (s : State) : State :=
  { s with
    running := .readCode
    emitted := none
    configured := true
    cfg := if s.configured then s.cfg else ⟨16#16, 16#16, .int, false, .nearest⟩
    inBuf := placedHeader mode ++ body
    fmt := some (mainlineFormat (some mode))
    hdr :=
      { rlcCount := some 0#16
        marker := some 0x3800#16
        qscaleL := some 1#6
        qscaleC := some 1#6
        version := some (match mode with | .shared => 2#16 | .diff => 3#16)
        dcMode := some mode
        acTable := some .main
        body := some 8 }
    bitPos := 0
    streamBits := 16 * (body.length / 2)
    dstate := .active
    trk := trk
    vpos := 0
    prevDc := ⟨0, 0, 0⟩
    degenCount := 0
    pendRun := none
    status := Status.clear
    frameMode := .codes }

/-- The tracker at the first luma block of a frame: two blocks of two codes are done. -/
def trackerAtLuma : Tracker := ⟨0, .y1, true, 0, 4, 2, 0⟩

/-- The frame in which a codeword of a context is read next. -/
def placeCodeword (c : Context) (body : List Byte) (s : State) : State :=
  match c with
  | .dcShared => placeFrame .shared body Tracker.initial s
  | .dcLuma => placeFrame .diff body trackerAtLuma s
  | .dcChroma => placeFrame .diff body Tracker.initial s
  | .ac | .acTitle | .codeFirst | .codeLater | .command => placeFrame .shared body Tracker.initial.advanceCode s

/-- The frame in which a packed code waits for the consumer: the first code of its block, or the second. -/
def placePacked (w : Half) (s : State) : State :=
  let first := w != 0xFE00#16
  let trk := if first then Tracker.initial else Tracker.initial.advanceCode
  { placeFrame .shared [] (if first then trk.advanceCode else trk.advanceEob) s with
    emitted := some ⟨Code.unpack w, trk.mbIndex, trk.role, trk.firstOfBlock, trk.codesInBlock, 0⟩ }

/-- The word of spec/opcode_table.json placed where the next step fetches. -/
def placeWord (nbits w : Nat) (s : State) : State :=
  if nbits ≤ 8 then placeRequest w s
  else if nbits ≤ 16 then placePacked (BitVec.ofNat 16 w) s
  else
    let bits := tableBits nbits w
    let context := match decodeTableCodeword bits with
      | some i => contextOf i
      | none => .ac
    placeCodeword context (bytesOfBits ((bits.length + 15) / 16) bits) s

end Sys2Proof.Machine
end

