-- ==== Sys2Proof/Machine/Step.lean ====
section
/-! DEFINITION. One step: between operations, one request of the host, run whole (70_reset_and_hazards.md R770);
inside an operation, where only a state that no run from reset reaches can stand, one codeword or packed code. -/

namespace Sys2Proof.Machine

/-- One step of the core (10_state.md R50). -/
def step (s : State) : Host.Outcome State Fault Refusal :=
  if s.running = .idle then hostStep exec s else operationStep exec s

/-- The state with an instruction's word placed where `step` fetches next (log 2). -/
def State.withFetchWord (s : State) (nbits w : Nat) : State := placeWord nbits w s

end Sys2Proof.Machine
end

