-- ==== Sys2Proof/Safety.lean ====
section
/-! DEFINITION. What counts as a legal state of the core, and the terms the statements use: the rows of the codeword
tables as 30_encoding.md R163 and 42_entropy_dc.md R305 list them, and the positions in which a codeword is read. -/

namespace Sys2Proof.Machine

/-! ## The codeword tables as the spec lists them -/

/-- A VLC codeword of the table of 30_encoding.md R163: run, magnitude, bits of the code without the sign, sign. -/
structure VlcWord where
  run : Nat
  magnitude : Nat
  codeBits : Nat
  neg : Bool
  deriving DecidableEq, Repr

/-- The table row of a VLC codeword. -/
def vlcWord? : Instr → Option VlcWord
  | .acR0M1 neg => some ⟨0, 1, 2, neg⟩
  | .acR1M1 neg => some ⟨1, 1, 3, neg⟩
  | .acR0M2 neg => some ⟨0, 2, 4, neg⟩
  | .acR2M1 neg => some ⟨2, 1, 4, neg⟩
  | .acR0M3 neg => some ⟨0, 3, 5, neg⟩
  | .acR3M1 neg => some ⟨3, 1, 5, neg⟩
  | .acR4M1 neg => some ⟨4, 1, 5, neg⟩
  | .acR1M2 neg => some ⟨1, 2, 6, neg⟩
  | .acR5M1 neg => some ⟨5, 1, 6, neg⟩
  | .acR6M1 neg => some ⟨6, 1, 6, neg⟩
  | .acR7M1 neg => some ⟨7, 1, 6, neg⟩
  | .acR0M4 neg => some ⟨0, 4, 7, neg⟩
  | .acR2M2 neg => some ⟨2, 2, 7, neg⟩
  | .acR8M1 neg => some ⟨8, 1, 7, neg⟩
  | .acR9M1 neg => some ⟨9, 1, 7, neg⟩
  | .acR0M5 neg => some ⟨0, 5, 8, neg⟩
  | .acR0M6 neg => some ⟨0, 6, 8, neg⟩
  | .acR1M3 neg => some ⟨1, 3, 8, neg⟩
  | .acR3M2 neg => some ⟨3, 2, 8, neg⟩
  | .acR10M1 neg => some ⟨10, 1, 8, neg⟩
  | .acR11M1 neg => some ⟨11, 1, 8, neg⟩
  | .acR12M1 neg => some ⟨12, 1, 8, neg⟩
  | .acR13M1 neg => some ⟨13, 1, 8, neg⟩
  | .acR0M7 neg => some ⟨0, 7, 10, neg⟩
  | .acR1M4 neg => some ⟨1, 4, 10, neg⟩
  | .acR2M3 neg => some ⟨2, 3, 10, neg⟩
  | .acR4M2 neg => some ⟨4, 2, 10, neg⟩
  | .acR5M2 neg => some ⟨5, 2, 10, neg⟩
  | .acR14M1 neg => some ⟨14, 1, 10, neg⟩
  | .acR15M1 neg => some ⟨15, 1, 10, neg⟩
  | .acR16M1 neg => some ⟨16, 1, 10, neg⟩
  | .acR0M8 neg => some ⟨0, 8, 12, neg⟩
  | .acR0M9 neg => some ⟨0, 9, 12, neg⟩
  | .acR0M10 neg => some ⟨0, 10, 12, neg⟩
  | .acR0M11 neg => some ⟨0, 11, 12, neg⟩
  | .acR1M5 neg => some ⟨1, 5, 12, neg⟩
  | .acR2M4 neg => some ⟨2, 4, 12, neg⟩
  | .acR3M3 neg => some ⟨3, 3, 12, neg⟩
  | .acR4M3 neg => some ⟨4, 3, 12, neg⟩
  | .acR6M2 neg => some ⟨6, 2, 12, neg⟩
  | .acR7M2 neg => some ⟨7, 2, 12, neg⟩
  | .acR8M2 neg => some ⟨8, 2, 12, neg⟩
  | .acR17M1 neg => some ⟨17, 1, 12, neg⟩
  | .acR18M1 neg => some ⟨18, 1, 12, neg⟩
  | .acR19M1 neg => some ⟨19, 1, 12, neg⟩
  | .acR20M1 neg => some ⟨20, 1, 12, neg⟩
  | .acR21M1 neg => some ⟨21, 1, 12, neg⟩
  | .acR0M12 neg => some ⟨0, 12, 13, neg⟩
  | .acR0M13 neg => some ⟨0, 13, 13, neg⟩
  | .acR0M14 neg => some ⟨0, 14, 13, neg⟩
  | .acR0M15 neg => some ⟨0, 15, 13, neg⟩
  | .acR1M6 neg => some ⟨1, 6, 13, neg⟩
  | .acR1M7 neg => some ⟨1, 7, 13, neg⟩
  | .acR2M5 neg => some ⟨2, 5, 13, neg⟩
  | .acR3M4 neg => some ⟨3, 4, 13, neg⟩
  | .acR5M3 neg => some ⟨5, 3, 13, neg⟩
  | .acR9M2 neg => some ⟨9, 2, 13, neg⟩
  | .acR10M2 neg => some ⟨10, 2, 13, neg⟩
  | .acR22M1 neg => some ⟨22, 1, 13, neg⟩
  | .acR23M1 neg => some ⟨23, 1, 13, neg⟩
  | .acR24M1 neg => some ⟨24, 1, 13, neg⟩
  | .acR25M1 neg => some ⟨25, 1, 13, neg⟩
  | .acR26M1 neg => some ⟨26, 1, 13, neg⟩
  | .acR0M16 neg => some ⟨0, 16, 14, neg⟩
  | .acR0M17 neg => some ⟨0, 17, 14, neg⟩
  | .acR0M18 neg => some ⟨0, 18, 14, neg⟩
  | .acR0M19 neg => some ⟨0, 19, 14, neg⟩
  | .acR0M20 neg => some ⟨0, 20, 14, neg⟩
  | .acR0M21 neg => some ⟨0, 21, 14, neg⟩
  | .acR0M22 neg => some ⟨0, 22, 14, neg⟩
  | .acR0M23 neg => some ⟨0, 23, 14, neg⟩
  | .acR0M24 neg => some ⟨0, 24, 14, neg⟩
  | .acR0M25 neg => some ⟨0, 25, 14, neg⟩
  | .acR0M26 neg => some ⟨0, 26, 14, neg⟩
  | .acR0M27 neg => some ⟨0, 27, 14, neg⟩
  | .acR0M28 neg => some ⟨0, 28, 14, neg⟩
  | .acR0M29 neg => some ⟨0, 29, 14, neg⟩
  | .acR0M30 neg => some ⟨0, 30, 14, neg⟩
  | .acR0M31 neg => some ⟨0, 31, 14, neg⟩
  | .acR0M32 neg => some ⟨0, 32, 15, neg⟩
  | .acR0M33 neg => some ⟨0, 33, 15, neg⟩
  | .acR0M34 neg => some ⟨0, 34, 15, neg⟩
  | .acR0M35 neg => some ⟨0, 35, 15, neg⟩
  | .acR0M36 neg => some ⟨0, 36, 15, neg⟩
  | .acR0M37 neg => some ⟨0, 37, 15, neg⟩
  | .acR0M38 neg => some ⟨0, 38, 15, neg⟩
  | .acR0M39 neg => some ⟨0, 39, 15, neg⟩
  | .acR0M40 neg => some ⟨0, 40, 15, neg⟩
  | .acR1M8 neg => some ⟨1, 8, 15, neg⟩
  | .acR1M9 neg => some ⟨1, 9, 15, neg⟩
  | .acR1M10 neg => some ⟨1, 10, 15, neg⟩
  | .acR1M11 neg => some ⟨1, 11, 15, neg⟩
  | .acR1M12 neg => some ⟨1, 12, 15, neg⟩
  | .acR1M13 neg => some ⟨1, 13, 15, neg⟩
  | .acR1M14 neg => some ⟨1, 14, 15, neg⟩
  | .acR1M15 neg => some ⟨1, 15, 16, neg⟩
  | .acR1M16 neg => some ⟨1, 16, 16, neg⟩
  | .acR1M17 neg => some ⟨1, 17, 16, neg⟩
  | .acR1M18 neg => some ⟨1, 18, 16, neg⟩
  | .acR6M3 neg => some ⟨6, 3, 16, neg⟩
  | .acR11M2 neg => some ⟨11, 2, 16, neg⟩
  | .acR12M2 neg => some ⟨12, 2, 16, neg⟩
  | .acR13M2 neg => some ⟨13, 2, 16, neg⟩
  | .acR14M2 neg => some ⟨14, 2, 16, neg⟩
  | .acR15M2 neg => some ⟨15, 2, 16, neg⟩
  | .acR16M2 neg => some ⟨16, 2, 16, neg⟩
  | .acR27M1 neg => some ⟨27, 1, 16, neg⟩
  | .acR28M1 neg => some ⟨28, 1, 16, neg⟩
  | .acR29M1 neg => some ⟨29, 1, 16, neg⟩
  | .acR30M1 neg => some ⟨30, 1, 16, neg⟩
  | .acR31M1 neg => some ⟨31, 1, 16, neg⟩
  | _ => none

/-- The level of a VLC codeword (43_entropy_ac.md R366). -/
def VlcWord.level (w : VlcWord) : BitVec 10 := BitVec.ofInt 10 (if w.neg then -(w.magnitude : Int) else w.magnitude)

/-- An AC codeword of the mainline: run, level, bits, and whether it is the escape (30_encoding.md R160). -/
structure AcWord where
  run : BitVec 6
  level : BitVec 10
  bits : Nat
  escape : Bool
  deriving DecidableEq, Repr

/-- The run and the level of an AC codeword (43_entropy_ac.md R362, R366). -/
def acWord? : Instr → Option AcWord
  | .acEscape r l => some ⟨r, l, 22, true⟩
  | i => (vlcWord? i).map (fun w => ⟨BitVec.ofNat 6 w.run, w.level, w.codeBits + 1, false⟩)

/-- A differential DC codeword of the tables of 42_entropy_dc.md R305: the blocks it belongs to, its bits, its size
and its difference bits. -/
structure DcWord where
  context : Context
  bits : Nat
  size : Nat
  v : Nat
  deriving DecidableEq, Repr

/-- The table row of a differential DC codeword. -/
def dcWord? : Instr → Option DcWord
  | .dcDiffYS0 => some ⟨.dcLuma, 3, 0, 0⟩
  | .dcDiffYS1 v => some ⟨.dcLuma, 3, 1, v.toNat⟩
  | .dcDiffYS2 v => some ⟨.dcLuma, 4, 2, v.toNat⟩
  | .dcDiffYS3 v => some ⟨.dcLuma, 6, 3, v.toNat⟩
  | .dcDiffYS4 v => some ⟨.dcLuma, 7, 4, v.toNat⟩
  | .dcDiffYS5 v => some ⟨.dcLuma, 9, 5, v.toNat⟩
  | .dcDiffYS6 v => some ⟨.dcLuma, 11, 6, v.toNat⟩
  | .dcDiffYS7 v => some ⟨.dcLuma, 13, 7, v.toNat⟩
  | .dcDiffYS8 v => some ⟨.dcLuma, 15, 8, v.toNat⟩
  | .dcDiffCS0 => some ⟨.dcChroma, 2, 0, 0⟩
  | .dcDiffCS1 v => some ⟨.dcChroma, 3, 1, v.toNat⟩
  | .dcDiffCS2 v => some ⟨.dcChroma, 4, 2, v.toNat⟩
  | .dcDiffCS3 v => some ⟨.dcChroma, 6, 3, v.toNat⟩
  | .dcDiffCS4 v => some ⟨.dcChroma, 8, 4, v.toNat⟩
  | .dcDiffCS5 v => some ⟨.dcChroma, 10, 5, v.toNat⟩
  | .dcDiffCS6 v => some ⟨.dcChroma, 12, 6, v.toNat⟩
  | .dcDiffCS7 v => some ⟨.dcChroma, 14, 7, v.toNat⟩
  | .dcDiffCS8 v => some ⟨.dcChroma, 16, 8, v.toNat⟩
  | _ => none

/-- The delta of a differential DC codeword (42_entropy_dc.md R306). -/
def DcWord.delta (w : DcWord) : Int :=
  if w.size = 0 then 0 else if w.v < 2 ^ (w.size - 1) then (w.v : Int) - (2 ^ w.size - 1) else w.v

/-! ## Where a codeword is read -/

/-- An operation is about to read a codeword of the frame it has loaded (47_host_interface.md R649). -/
structure State.Reading (s : State) : Prop where
  running : s.running ≠ .idle
  emitted : s.emitted = none
  active : s.dstate = .active
  format : s.fmt ≠ none
  body : s.hdr.body ≠ none

/-- The next codeword is an AC codeword of the mainline table (43_entropy_ac.md R350). -/
structure State.ReadingAc (s : State) : Prop extends State.Reading s where
  later : s.trk.firstOfBlock = false
  table : s.hdr.acTable = some .main

/-- The next codeword is a DC codeword of a scheme (42_entropy_dc.md R300, R303), in a block of this qscale (R301). -/
structure State.ReadingDc (s : State) (mode : DcMode) (q : BitVec 6) : Prop extends State.Reading s where
  first : s.trk.firstOfBlock = true
  scheme : s.hdr.dcMode = some mode
  qscale : (if s.trk.role.isLuma then s.hdr.qscaleL else s.hdr.qscaleC) = some q

/-- What `decode_one` returns of a code (47_host_interface.md R649): the position is read before the advance. -/
def State.emittedOf (s : State) (c : Code) : Emitted :=
  ⟨c, s.trk.mbIndex, s.trk.role, s.trk.firstOfBlock, s.trk.codesInBlock, s.bitPos⟩

/-- The default tables are in use (00_scope.md R7), and no title format's own DC codeword (42_entropy_dc.md R307). -/
structure State.DefaultTables (s : State) : Prop where
  ownDc : ownDc s.params s.fmt = none
  vlc : s.params.acVlcTable = none
  luma : s.params.dcDiffTableLuma = none
  chroma : s.params.dcDiffTableChroma = none

/-! ## How an operation ends in an error -/

/-- The context of an error in the bitstream (60_exceptions.md R705), for the codeword that began at `start`. -/
def State.errorCtx (s : State) (start : Nat) (value : Option CtxValue) : Ctx where
  phase := .block
  fmt := s.fmt
  mbIndex := some s.trk.mbIndex
  mbPixel := some (s.trk.mbIndex / s.cfg.mbH * 16, s.trk.mbIndex % s.cfg.mbH * 16)
  role := some s.trk.role
  codesInBlock := some s.trk.codesInBlock
  bitPos := some start
  value := value

/-- From `s`, the running operation ends in `t` with a frame error, an END_OF_STREAM when there is no cause
(60_exceptions.md R712; 47_host_interface.md R649): the error is recorded and returned, the count of degenerate codes
is published, and nothing else changes but, in pixel mode, the planes. -/
def FrameFails (s t : State) (cause : Option Cause) (ctx : Ctx) : Prop :=
  t = { s with
    running := .idle
    emitted := none
    dstate := .failed
    status :=
      { errKind := if cause = none then .endOfStream else .readCorruption
        errCause := cause
        errCtx := some ctx
        warn := { s.status.warn with
          degenerateCodes := s.status.warn.degenerateCodes || decide (0 < s.degenCount) }
        degenCount := s.degenCount }
    reply := some (match cause with | none => .endOfStream ctx | some c => .readCorruption c ctx)
    planeY := t.planeY
    planeCb := t.planeCb
    planeCr := t.planeCr } ∧
  (s.running = .readCode → t.planeY = s.planeY ∧ t.planeCb = s.planeCb ∧ t.planeCr = s.planeCr)

/-! ## The planes -/

/-- The position is inside the plane (20_memory.md R120). -/
def PlaneId.Inside (c : Cfg) (p : PlaneId) (x y : Nat) : Prop := x < p.stride c ∧ y < p.rows c

/-- The number, in decode order, of the block that holds a sample of a plane (45_reconstruction.md R569): macroblocks
go down the columns (40_mdec_code.md R206), the blocks of one are Cr, Cb, Y1, Y2, Y3, Y4. -/
def blockNumber (c : Cfg) (p : PlaneId) (x y : Nat) : Nat :=
  match p with
  | .cr => 6 * (x / 8 * c.mbH + y / 8)
  | .cb => 6 * (x / 8 * c.mbH + y / 8) + 1
  | .y => 6 * (x / 16 * c.mbH + y / 16) + 2 + x / 8 % 2 + 2 * (y / 8 % 2)

/-- The sample of an 8x8 block that a block of these registers gives (45_reconstruction.md R562): 0 without a coefficient,
the single-coefficient inverse DCT with one, the full one with more.  The integer inverse DCTs are free values (log 6), the
floating-point ones are held to their formula (log 7). -/
def blockSample (s : State) (k : Fin 64) : Sample :=
  if s.nzCount = 0 then zeroSample s.cfg.variant
  else match s.cfg.variant with
    | .int =>
      .int (if s.nzCount = 1 then Config.idct1Int (s.lastNz.getD 0) (sampleInt s.blk[s.lastNz.getD 0]) k
        else Config.idctInt (s.blk.toList.map sampleInt) k)
    | .float =>
      .float (if s.nzCount = 1 then idct1Float s.params (s.lastNz.getD 0) (sampleDouble s.blk[s.lastNz.getD 0]) k
        else idctFloat s.params (s.blk.toList.map sampleDouble) k)

/-! ## Frames -/

/-- The state a good mainline header leaves (70_reset_and_hazards.md R752; 41_entropy_header.md R255, R258), for the base
`b` of its header. -/
def loadedFrame (s : State) (bytes : List Byte) (b : Nat) (fmt : Fmt) (mode : DcMode) (rlc version : Half)
    (q : BitVec 6) : State :=
  { s with
    reply := some .ok
    inBuf := bytes
    qtActive := s.qt
    fmt := some fmt
    hdr := ⟨some rlc, some 0x3800#16, some q, some q, some version, some mode, some .main, some (b + 8)⟩
    bitPos := 0
    streamBits := 16 * ((bytes.length - (b + 8)) / 2)
    dstate := .active
    trk := ⟨0, .cr, true, 0, 0, 0, 0⟩
    vpos := 0
    prevDc := ⟨0, 0, 0⟩
    degenCount := 0
    pendRun := none
    status := ⟨.none, none, none, ⟨decide ((bytes.length - (b + 8)) % 2 = 1), false⟩, 0⟩
    frameMode := .none }

/-- A stream that holds, block by block, a shared DC field `d k` and the end of block. -/
def DcOnlyStream (s : State) (body : Nat) (d : Nat → BitVec 10) : Prop :=
  72 * s.cfg.mbCount ≤ s.streamBits ∧
  ∀ k j, k < 6 * s.cfg.mbCount → j < 12 →
    some (streamBit s body (12 * k + j)) = (bitsOf (d k) ++ [b1, b0])[j]?

/-! ## The invariant -/

/-- The sample is of the variant's kind (10_state.md R67, R69). -/
def sampleKind (variant : Variant) : Sample → Bool
  | .int _ => variant == .int
  | .float _ => variant == .float

/-- A plane in canonical form, its listed samples inside the plane and of the variant's kind (10_state.md R69,
20_memory.md R120). -/
structure PlaneInv (s : State) (p : PlaneId) : Prop where
  wf : Memory.wf (zeroSample s.cfg.variant) (s.plane p) = true
  inside : ∀ e ∈ s.plane p, e.1 < p.stride s.cfg * p.rows s.cfg
  kind : ∀ e ∈ s.plane p, sampleKind s.cfg.variant e.2 = true

/-- The zero-run the filter holds back (44_filter.md R503). -/
def State.pending (s : State) : Nat := s.pendRun.getD 0

/-- The code that waits for the consumer stands where the tracker was one advance ago (40_mdec_code.md R213, R214), and
its run is one the run check has let pass (43_entropy_ac.md R353, R354). -/
structure EmittedInv (s : State) (e : Emitted) : Prop where
  inFrame : e.mbIndex < s.cfg.mbCount
  first : e.first = true ↔ e.codesInBlock = 0
  start : e.start ≤ s.bitPos
  code : isTerminal e.first e.code = false →
    s.dstate = .active ∧ s.trk.mbIndex = e.mbIndex ∧ s.trk.role = e.role ∧ s.trk.firstOfBlock = false ∧
      s.trk.codesInBlock = e.codesInBlock + 1
  terminal : isTerminal e.first e.code = true →
    s.trk.mbIndex = (if e.role = .y4 then e.mbIndex + 1 else e.mbIndex) ∧ s.trk.role = e.role.next ∧
      s.trk.firstOfBlock = true
  dc : e.first = true → s.vpos = 0
  run : e.first = false → e.code.isEob = false → s.pending + e.code.top6.toNat + 1 ≤ s.vpos
  position : s.running = .decodeFrame → e.first = false → e.code.isEob = false →
    s.rpos + s.pending + e.code.top6.toNat + 1 = s.vpos

/-- The states the core can be in, in every operation and between them. -/
structure State.Inv (s : State) : Prop where
  /-- 10_state.md R53, 47_host_interface.md R650. -/
  size : s.configured = true →
    1 ≤ s.cfg.width.toNat ∧ s.cfg.width.toNat ≤ s.params.maxDim.toNat ∧
    1 ≤ s.cfg.height.toNat ∧ s.cfg.height.toNat ≤ s.params.maxDim.toNat
  /-- 70_reset_and_hazards.md R751: no frame before the first CONFIGURE. -/
  unconfigured : s.configured = false → s.dstate = .idle ∧ s.running = .idle
  planeY : PlaneInv s .y
  planeCb : PlaneInv s .cb
  planeCr : PlaneInv s .cr
  outRgb : Memory.wf none s.outRgb = true
  outYuv : Memory.wf none s.outYuv = true
  /-- 10_state.md R67. -/
  blk : ∀ i : Fin 64, sampleKind s.cfg.variant s.blk[i] = true
  /-- 40_mdec_code.md R215. -/
  totalMbs : s.trk.totalMbs = s.trk.mbIndex
  totalBlocks : s.trk.totalBlocks = 6 * s.trk.mbIndex + s.trk.role.index
  firstOfBlock : s.trk.firstOfBlock = true ↔ s.trk.codesInBlock = 0
  mbIndex : s.configured = true → s.trk.mbIndex ≤ s.cfg.mbCount ∧ (s.trk.mbIndex = s.cfg.mbCount ↔ s.dstate = .done)
  /-- A frame ends with the last block, so the next block of a finished frame is block Cr (40_mdec_code.md R214). -/
  doneRole : s.dstate = .done → s.trk.role = .cr ∧ s.trk.firstOfBlock = true
  /-- 10_state.md R60. -/
  bitPos : s.bitPos ≤ s.streamBits
  /-- 10_state.md R63. -/
  vpos : s.vpos ≤ 63
  /-- 10_state.md R64. -/
  prevDc : ∀ r : Role, -512 ≤ s.prevDc.get r ∧ s.prevDc.get r ≤ 511
  /-- 10_state.md R64: "They are read and written only when `HDR.DCMODE = DIFF`". -/
  noPrevDc : s.hdr.dcMode ≠ some .diff → s.prevDc = ⟨0, 0, 0⟩
  /-- 10_state.md R59. -/
  qscale : s.hdr.qscaleL ≠ some 0#6 ∧ s.hdr.qscaleC ≠ some 0#6
  /-- 70_reset_and_hazards.md R753: what a frame's rules read holds a value. -/
  header : s.dstate = .active ∨ s.dstate = .done →
    s.fmt ≠ none ∧ s.hdr.qscaleL ≠ none ∧ s.hdr.qscaleC ≠ none ∧ s.hdr.dcMode ≠ none ∧ s.hdr.acTable ≠ none ∧
      s.hdr.body ≠ none
  /-- 41_entropy_header.md R256: the title table is a title format's. -/
  title : s.hdr.acTable = some .title → ∃ t f, s.fmt = some (.title t) ∧ titleFormat? s.params t = some f
  /-- 20_memory.md R106. -/
  streamBits : s.dstate = .active ∨ s.dstate = .done →
    s.streamBits = 16 * ((s.inBuf.length - s.hdr.body.getD 0) / 2)
  /-- 60_exceptions.md R712. -/
  failed : s.dstate = .failed ↔ s.status.errKind ≠ .none
  recorded : s.dstate = .failed → recordedReply s ≠ none
  /-- 10_state.md R66. -/
  noMerge : s.cfg.filterMerge = false → s.pendRun = none
  /-- The run held back is one of codes already read (44_filter.md R503, 43_entropy_ac.md R353). -/
  pending : s.emitted = none → s.pending ≤ s.vpos ∧ (s.trk.firstOfBlock = true → s.pendRun = none)
  pendingFit : s.pending ≤ 63
  /-- 10_state.md R68. -/
  nzCount : s.nzCount ≤ s.rpos + 1
  lastNz : 1 ≤ s.nzCount → s.lastNz ≠ none
  rpos : s.rpos ≤ 63
  /-- Between operations nothing waits (70_reset_and_hazards.md R764). -/
  idle : s.running = .idle → s.emitted = none
  readCode : s.running = .readCode → s.frameMode = .codes
  decodeFrame : s.running = .decodeFrame → s.frameMode = .pixels
  reading : s.running ≠ .idle → s.emitted = none → s.dstate = .active
  consuming : s.running ≠ .idle → s.dstate = .active ∨ s.dstate = .done
  /-- 47_host_interface.md R660: "a frame in pixel mode never stays ACTIVE after DECODE_FRAME returns". -/
  pixels : s.dstate = .active → s.frameMode = .pixels → s.running = .decodeFrame
  /-- No code of the frame is read before its mode is chosen (10_state.md R73, 70_reset_and_hazards.md R752). -/
  fresh : s.dstate = .active → s.frameMode = .none → s.trk = Tracker.initial
  /-- The reconstruction engine stands where the decoder does, less the run held back (40_mdec_code.md R218). -/
  position : s.running = .decodeFrame → s.emitted = none → s.trk.firstOfBlock = false →
    s.rpos + s.pending = s.vpos
  emitted : ∀ e, s.emitted = some e → EmittedInv s e
  /-- 10_state.md R70. -/
  degenCount : s.status.degenCount = s.degenCount
  /-- 44_filter.md R502: the warning stands once the frame has ended. -/
  degenerate : s.running = .idle → s.dstate = .done ∨ s.dstate = .failed → 0 < s.degenCount →
    s.status.warn.degenerateCodes = true

end Sys2Proof.Machine
end

