-- ==== Sys2Proof/Certificates/Slice0/Obligations.lean ====
section
/-! DEFINITION. The statements for the provers, by family: the encodings, the step, the codewords, the consumer of the
codes, the host's commands, the planes, the invariants.  OBLIGATIONS.json lists them with the rules they rest on. -/

open Sys2Proof Sys2Proof.Machine

/-! ## Encodings -/

/-- Every codeword instruction is what its codeword decodes to where it stands, whatever bits follow
(30_encoding.md R170; 43_entropy_ac.md R351, "match c (unique, since S is prefix-free)"). -/
def Obligations.CodewordsDecode : Prop :=
  ∀ (i : Instr) (code rest : Bits), encode i = .codeword code →
    decodeCodeword (contextOf i) (code ++ rest) = .found i code.length

/-- Every packed code is what its word decodes to at its position in the block (40_mdec_code.md R202, R212). -/
def Obligations.PackedCodesDecode : Prop :=
  ∀ (i : Instr) (w : Half), i.wellFormed = true → encode i = .packed w →
    decodePacked (contextOf i == .codeFirst) w = i

/-- Every host command is what its request decodes to (47_host_interface.md R658; the operands' bytes are the model's
choice, log 27). -/
def Obligations.CommandsDecode : Prop :=
  ∀ (i : Instr) (bytes : List Byte), i.wellFormed = true → encode i = .request bytes →
    decodeCommand bytes = .ok i

/-- Bits that begin no codeword are the beginning of one exactly when some continuation of them begins with a codeword
(43_entropy_ac.md R351: "an error is EndOfStream if and only if some continuation of the available bits would have given
a codeword"). -/
def Obligations.EndOfStreamIffSomeContinuation : Prop :=
  ∀ (c : Context) (w : Bits), (∀ i n, decodeCodeword c w ≠ .found i n) →
    (decodeCodeword c w = .needMore ↔ ∃ rest i n, decodeCodeword c (w ++ rest) = .found i n)

/-- Words written out from the spec: `11|0`, the escape (3, -5) of R362, the luma delta 6 of R303, EOB, the packed codes
of 95_test_vectors.md 2.1, QUERY_STATUS, and the reserved id 0x09; and the numbers of the outcomes
(47_host_interface.md R658) and of the causes (60_exceptions.md R702). -/
def Obligations.SampleWordsDecode : Prop :=
  decodeCodeword .ac [b1, b1, b0] = .found (.acR0M1 false) 3 ∧
  decodeCodeword .ac [b0, b0, b0, b0, b0, b1, b0, b0, b0, b0, b1, b1, b1, b1, b1, b1, b1, b1, b1, b0, b1, b1]
    = .found (.acEscape 3#6 (-5#10)) 22 ∧
  decodeCodeword .dcLuma [b1, b0, b1, b1, b1, b0] = .found (.dcDiffYS3 6#3) 6 ∧
  decodeCodeword .ac [b1, b0] = .found .acEob 2 ∧
  decodePacked true 0x0807#16 = .mdecDc 2#6 7#10 ∧
  decodePacked false 0xFE00#16 = .mdecEob ∧
  decodeCommand [8#8] = .ok .queryStatus ∧
  decodeCommand [9#8] = .error (.reservedId 9#8) ∧
  (Reply.outcomeCode .ok = 0 ∧ (∀ w flag, Reply.outcomeCode (.code w flag) = 0) ∧
    (∀ r, Reply.outcomeCode (.status r) = 0) ∧ Reply.outcomeCode .done = 1 ∧ Reply.outcomeCode .refused = 2 ∧
    (∀ ctx, Reply.outcomeCode (.endOfStream ctx) = 3) ∧ (∀ c ctx, Reply.outcomeCode (.readCorruption c ctx) = 4)) ∧
  [Cause.unrecognizedHeader, .zeroQscale, .qscaleRange, .badVersion, .unmatchedVlc, .unmatchedDc, .dcRange, .zeroEscape,
    .runOverflow, .runOutOfBounds].map causeNumber = [1, 2, 3, 4, 5, 6, 7, 8, 9, 10]

/-! ## The step -/

/-- Inside an operation that waits for a codeword, the step runs the codeword its upcoming bits decode to: it is `exec`
of that instruction and nothing more (47_host_interface.md R649, `decode_one`). -/
def Obligations.StepRunsTheCodeword : Prop :=
  ∀ (s : State) (c : Context) (body n : Nat) (i : Instr), s.DefaultTables → s.emitted = none → context s = .ok c →
    c ≠ .acTitle → s.hdr.body = some body → decodeCodeword c (peek s body window) = .found i n →
    step s = exec i s

/-- Inside an operation, a code that waits for the consumer is run as the packed code it is at its position
(47_host_interface.md R653, R654; 40_mdec_code.md R212). -/
def Obligations.StepRunsThePackedCode : Prop :=
  ∀ (s : State) (e : Emitted), s.running ≠ .idle → s.emitted = some e →
    step s = exec (decodePacked e.first e.code.pack) s

/-- Between operations the step takes the host's first request and runs the command it decodes to; a request that is no
command is REFUSED, and without a request nothing changes (47_host_interface.md R658; 70_reset_and_hazards.md R779;
the queue of requests is the model's, logs 1 and 26). -/
def Obligations.StepRunsTheRequest : Prop :=
  ∀ (s : State), s.running = .idle →
    (s.hostIn = [] → step s = .next s) ∧
    (∀ request rest, s.hostIn = request :: rest →
      (∀ i, decodeCommand request = .ok i → step s = exec i { s with hostIn := rest }) ∧
      (∀ e, decodeCommand request = .error e →
        step s = .next { s with hostIn := rest, reply := some .refused }))

/-! ## The bit reader and the coefficient primitive -/

/-- `Peek(n)` shows the bits from BITPOS on, at most `n` and at most those of the stream, each unit of the stream most
significant bit first (20_memory.md R107, R110); a unit of the mainline bitstream is the 16-bit little-endian word at its
place in `IN` (R101, R105). -/
def Obligations.BitReader : Prop :=
  ∀ (s : State) (body n k : Nat),
    (peek s body n).length = min n (s.streamBits - s.bitPos) ∧
    (k < n → s.bitPos + k < s.streamBits →
      (peek s body n)[k]? =
        some ((unitAt s body ((s.bitPos + k) / 16)).getLsbD (15 - (s.bitPos + k) % 16))) ∧
    (s.fmt = some .strShared ∨ s.fmt = some .strDiff ∨ s.fmt = some .prefix40 →
      body + 2 * k + 1 < s.inBuf.length →
      memRead16 s.inBuf (body + 2 * k) = some (unitAt s body k) ∧
      (unitAt s body k).toNat
        = (s.inBuf.getD (body + 2 * k) 0#8).toNat + 256 * (s.inBuf.getD (body + 2 * k + 1) 0#8).toNat)

/-- `pack` and `unpack` are inverse bijections and a pair out of range has no word (40_mdec_code.md R202); `isEOB` holds of
the pair (63, -512) alone (R203). -/
def Obligations.PackUnpackAndEob : Prop :=
  (∀ c : Code, Code.unpack c.pack = c) ∧ (∀ w : Half, (Code.unpack w).pack = w) ∧
  (∀ c : Code, c.pack.toNat = c.top6.toNat * 1024 + c.bottom10.toNat) ∧
  (∀ a b : Int, packPair a b =
    if 0 ≤ a ∧ a ≤ 63 ∧ -512 ≤ b ∧ b ≤ 511 then some (Code.pack ⟨BitVec.ofInt 6 a, BitVec.ofInt 10 b⟩) else none) ∧
  (∀ c : Code, c.isEob = true ↔ c.getTop6 = 63 ∧ c.getBottom10 = -512)

/-- Get, set and copy of a code's fields: a set in range writes that field alone, out of range it is REFUSED
(40_mdec_code.md R201). -/
def Obligations.GetSetCopy : Prop :=
  ∀ (c : Code) (v : Int),
    c.getTop6 = c.top6.toNat ∧ c.getBottom10 = c.bottom10.toInt ∧
    (0 ≤ v → v ≤ 63 → ∃ d, c.setTop6 v = some d ∧ d.getTop6 = v ∧ d.getBottom10 = c.getBottom10) ∧
    (v < 0 ∨ 63 < v → c.setTop6 v = none) ∧
    (-512 ≤ v → v ≤ 511 → ∃ d, c.setBottom10 v = some d ∧ d.getBottom10 = v ∧ d.getTop6 = c.getTop6) ∧
    (v < -512 ∨ 511 < v → c.setBottom10 v = none) ∧
    c.copy = c

/-! ## The codewords -/

/-- A VLC codeword completes: its bits are taken, the position moves by the run and one, the code with the level is
emitted, and the tracker counts it; nothing else changes (43_entropy_ac.md R353, R366; 40_mdec_code.md R213). -/
def Obligations.VlcCodewordsComplete : Prop :=
  ∀ (i : Instr) (w : VlcWord) (s : State), vlcWord? i = some w → s.ReadingAc →
    s.bitPos + w.codeBits + 1 ≤ s.streamBits → s.vpos + w.run + 1 ≤ 63 →
    exec i s = .next { s with
      bitPos := s.bitPos + w.codeBits + 1
      vpos := s.vpos + w.run + 1
      emitted := some (s.emittedOf ⟨BitVec.ofNat 6 w.run, w.level⟩)
      trk := { s.trk with
        codesInBlock := s.trk.codesInBlock + 1
        totalCodes := s.trk.totalCodes + 1
        firstOfBlock := false } }

/-- The escape (43_entropy_ac.md R362): END_OF_STREAM when fewer than its 22 bits remain; then the run check; then the
zero-level check; else its run and its signed level are emitted. -/
def Obligations.EscapeCodeword : Prop :=
  (∀ (r : BitVec 6) (l : BitVec 10),
    encode (.acEscape r l) = .codeword ([b0, b0, b0, b0, b0, b1] ++ bitsOf r ++ bitsOf l)) ∧
  ∀ (r : BitVec 6) (l : BitVec 10) (s : State), s.ReadingAc →
    (s.streamBits < s.bitPos + 22 →
      ∃ t, exec (.acEscape r l) s = .next t ∧ FrameFails s t none (s.errorCtx s.bitPos none)) ∧
    (s.bitPos + 22 ≤ s.streamBits → 63 < s.vpos + r.toNat + 1 →
      ∃ t, exec (.acEscape r l) s = .next t ∧
        FrameFails { s with bitPos := s.bitPos + 22 } t (some .runOverflow)
          (s.errorCtx s.bitPos (some (.number (s.vpos + r.toNat + 1 : Nat))))) ∧
    (s.bitPos + 22 ≤ s.streamBits → s.vpos + r.toNat + 1 ≤ 63 → l = 0#10 →
      (∀ f, s.fmt = some f → f ∉ s.params.zeroAcTolerant) →
      ∃ t, exec (.acEscape r l) s = .next t ∧
        FrameFails { s with bitPos := s.bitPos + 22, vpos := t.vpos } t (some .zeroEscape)
          (s.errorCtx s.bitPos (some (.number r.toNat)))) ∧
    (s.bitPos + 22 ≤ s.streamBits → s.vpos + r.toNat + 1 ≤ 63 →
      l ≠ 0#10 ∨ (∃ f, s.fmt = some f ∧ f ∈ s.params.zeroAcTolerant) →
      exec (.acEscape r l) s = .next { s with
        bitPos := s.bitPos + 22
        vpos := s.vpos + r.toNat + 1
        emitted := some (s.emittedOf ⟨r, l⟩)
        trk := { s.trk with
          codesInBlock := s.trk.codesInBlock + 1
          totalCodes := s.trk.totalCodes + 1
          firstOfBlock := false } })

/-- The run check of every mainline AC codeword (43_entropy_ac.md R353): a position beyond 63 is RUN_OVERFLOW with that
position as its value and leaves VPOS and the tracker as they were; any other becomes VPOS, whether the code is then
emitted or, an escape of level zero, is an error (VPOS after that error is the inference of log 12). -/
def Obligations.RunCheck : Prop :=
  ∀ (i : Instr) (w : AcWord) (s : State), acWord? i = some w → s.ReadingAc → s.bitPos + w.bits ≤ s.streamBits →
    (63 < s.vpos + w.run.toNat + 1 →
      ∃ t, exec i s = .next t ∧
        FrameFails { s with bitPos := s.bitPos + w.bits } t (some .runOverflow)
          (s.errorCtx s.bitPos (some (.number (s.vpos + w.run.toNat + 1 : Nat))))) ∧
    (s.vpos + w.run.toNat + 1 ≤ 63 → ∃ t, exec i s = .next t ∧ t.vpos = s.vpos + w.run.toNat + 1)

/-- The end-of-block codeword (43_entropy_ac.md R360): with one bit left it is END_OF_STREAM; else its two bits are
taken, (63, -512) is emitted and the tracker ends the block (40_mdec_code.md R214), the frame after its last block.  No
run check applies: VPOS stands. -/
def Obligations.EobCodeword : Prop :=
  encode .acEob = .codeword [b1, b0] ∧ isTerminal false ⟨63#6, -512#10⟩ = true ∧
  ∀ (s : State), s.ReadingAc →
    (s.streamBits < s.bitPos + 2 →
      ∃ t, exec .acEob s = .next t ∧ FrameFails s t none (s.errorCtx s.bitPos none)) ∧
    (s.bitPos + 2 ≤ s.streamBits →
      exec .acEob s = .next { s with
        bitPos := s.bitPos + 2
        emitted := some (s.emittedOf ⟨63#6, -512#10⟩)
        trk :=
          { totalCodes := s.trk.totalCodes + 1
            totalBlocks := s.trk.totalBlocks + 1
            codesInBlock := 0
            firstOfBlock := true
            role := if s.trk.role = .y4 then .cr else s.trk.role.next
            mbIndex := if s.trk.role = .y4 then s.trk.mbIndex + 1 else s.trk.mbIndex
            totalMbs := if s.trk.role = .y4 then s.trk.totalMbs + 1 else s.trk.totalMbs }
        dstate :=
          if (if s.trk.role = .y4 then s.trk.mbIndex + 1 else s.trk.mbIndex) = s.cfg.mbCount then .done
          else s.dstate })

/-- The shared DC codeword (42_entropy_dc.md R300): END_OF_STREAM when fewer than ten bits remain; else the block's
qscale and the signed field are emitted as the DC code, whatever its bits; PREV_DC stands. -/
def Obligations.SharedDcCodeword : Prop :=
  (∀ d : BitVec 10, encode (.dcShared d) = .codeword (bitsOf d)) ∧
  ∀ (d : BitVec 10) (q : BitVec 6) (s : State), s.ReadingDc .shared q →
    (s.streamBits < s.bitPos + 10 →
      ∃ t, exec (.dcShared d) s = .next t ∧ FrameFails s t none (s.errorCtx s.bitPos none)) ∧
    (s.bitPos + 10 ≤ s.streamBits →
      exec (.dcShared d) s = .next { s with
        bitPos := s.bitPos + 10
        vpos := 0
        emitted := some (s.emittedOf ⟨q, d⟩)
        trk := { s.trk with
          codesInBlock := s.trk.codesInBlock + 1
          totalCodes := s.trk.totalCodes + 1
          firstOfBlock := false } })

/-- A differential DC codeword of the default tables completes when the reconstructed DC is in range: four times the
delta (42_entropy_dc.md R306) is added to the predictor of the role (R302), which takes the new value (R303). -/
def Obligations.DiffDcCodewordsComplete : Prop :=
  ∀ (i : Instr) (w : DcWord) (q : BitVec 6) (s : State), dcWord? i = some w → s.ReadingDc .diff q →
    w.context = (if s.trk.role.isLuma then .dcLuma else .dcChroma) → s.bitPos + w.bits ≤ s.streamBits →
    -512 ≤ s.prevDc.get s.trk.role + 4 * w.delta → s.prevDc.get s.trk.role + 4 * w.delta ≤ 511 →
    ∃ p : PrevDc,
      (p.cr = if s.trk.role = .cr then s.prevDc.cr + 4 * w.delta else s.prevDc.cr) ∧
      (p.cb = if s.trk.role = .cb then s.prevDc.cb + 4 * w.delta else s.prevDc.cb) ∧
      (p.y = if s.trk.role.isLuma then s.prevDc.y + 4 * w.delta else s.prevDc.y) ∧
      exec i s = .next { s with
        bitPos := s.bitPos + w.bits
        vpos := 0
        prevDc := p
        emitted := some (s.emittedOf ⟨q, BitVec.ofInt 10 (s.prevDc.get s.trk.role + 4 * w.delta)⟩)
        trk := { s.trk with
          codesInBlock := s.trk.codesInBlock + 1
          totalCodes := s.trk.totalCodes + 1
          firstOfBlock := false } }

/-- A reconstructed DC outside [-512, 511] is DC_RANGE with that value; the predictors are not updated
(42_entropy_dc.md R304), and the codeword has been taken (60_exceptions.md R706). -/
def Obligations.DiffDcOutOfRange : Prop :=
  ∀ (i : Instr) (w : DcWord) (q : BitVec 6) (s : State), dcWord? i = some w → s.ReadingDc .diff q →
    w.context = (if s.trk.role.isLuma then .dcLuma else .dcChroma) → s.bitPos + w.bits ≤ s.streamBits →
    (s.prevDc.get s.trk.role + 4 * w.delta < -512 ∨ 511 < s.prevDc.get s.trk.role + 4 * w.delta) →
    ∃ t, exec i s = .next t ∧
      FrameFails { s with bitPos := s.bitPos + w.bits } t (some .dcRange)
        (s.errorCtx s.bitPos (some (.number (s.prevDc.get s.trk.role + 4 * w.delta))))

/-- A codeword that the stream cuts short is END_OF_STREAM and takes no bit (20_memory.md R111; 60_exceptions.md R700):
for every codeword instruction, where one of its kind is read. -/
def Obligations.CutCodewordIsEndOfStream : Prop :=
  ∀ (i : Instr) (code : Bits) (s : State), encode i = .codeword code → context s = .ok (contextOf i) →
    s.streamBits < s.bitPos + code.length →
    ∃ t, exec i s = .next t ∧ FrameFails s t none (s.errorCtx s.bitPos none)

/-- Upcoming bits that begin no codeword of the default tables end the frame without a bit taken: END_OF_STREAM if they
begin one that the stream cuts, else UNMATCHED_VLC or UNMATCHED_DC with the bits as the value
(43_entropy_ac.md R351; 60_exceptions.md R702, R706). -/
def Obligations.NoCodewordEndsTheFrame : Prop :=
  ∀ (s : State) (c : Context) (body : Nat), s.DefaultTables → s.emitted = none → context s = .ok c → c ≠ .acTitle →
    s.hdr.body = some body →
    (decodeCodeword c (peek s body window) = .needMore →
      ∃ t, step s = .next t ∧ FrameFails s t none (s.errorCtx s.bitPos none)) ∧
    (decodeCodeword c (peek s body window) = .unmatched →
      ∃ t, step s = .next t ∧
        FrameFails s t (some (if c = .ac then .unmatchedVlc else .unmatchedDc))
          (s.errorCtx s.bitPos (some (.bits (peek s body window)))))

/-- Twelve zeros where an AC codeword is read are UNMATCHED_VLC, whatever follows (43_entropy_ac.md R367). -/
def Obligations.TwelveZerosAreUnmatched : Prop :=
  ∀ (s : State) (body : Nat) (rest : Bits), s.ReadingAc → s.DefaultTables → s.hdr.body = some body →
    peek s body window = List.replicate 12 false ++ rest →
    ∃ t, step s = .next t ∧
      FrameFails s t (some .unmatchedVlc) (s.errorCtx s.bitPos (some (.bits (peek s body window))))

/-! ## The filter and the consumer of the codes -/

/-- In coefficient mode the first code of a block is returned as it is, with end-of-block flag 0 whatever its bits, and
the end of block as 0xFE00 with flag 1 (40_mdec_code.md R212; 47_host_interface.md R653); both drop a run the filter holds
back (44_filter.md R503), and after the last block the frame's count of degenerate codes is published
(47_host_interface.md R649). -/
def Obligations.FirstAndLastCodesAreReturned : Prop :=
  (∀ (q : BitVec 6) (d : BitVec 10) (e : Emitted) (s : State), s.running = .readCode → s.emitted = some e →
    e.first = true → s.dstate = .active →
    exec (.mdecDc q d) s = .next { s with
      running := .idle
      emitted := none
      pendRun := none
      reply := some (.code (q ++ d) false) }) ∧
  ∀ (e : Emitted) (s : State), s.running = .readCode → s.emitted = some e → e.first = false →
    exec .mdecEob s = .next { s with
      running := .idle
      emitted := none
      pendRun := none
      reply := some (.code 0xFE00#16 true)
      status := if s.dstate = .done then
          { s.status with
            warn := { s.status.warn with
              degenerateCodes := s.status.warn.degenerateCodes || decide (0 < s.degenCount) }
            degenCount := s.degenCount }
        else s.status }

/-- In coefficient mode a later code that is not degenerate is returned with flag 0; with merging on, a run that the
filter holds back is added to its run (44_filter.md R503), as long as the sum is a run at all. -/
def Obligations.LaterCodeIsReturned : Prop :=
  ∀ (r : BitVec 6) (l : BitVec 10) (e : Emitted) (s : State), s.running = .readCode → s.emitted = some e →
    e.first = false → s.dstate = .active → l ≠ 0#10 → ¬ (r = 63#6 ∧ l = -512#10) →
    (s.cfg.filterMerge = false ∨ s.pendRun = none →
      exec (.mdecAc r l) s = .next { s with
        running := .idle
        emitted := none
        reply := some (.code (r ++ l) false) }) ∧
    (∀ p, s.cfg.filterMerge = true → s.pendRun = some p → p + r.toNat ≤ 63 →
      exec (.mdecAc r l) s = .next { s with
        running := .idle
        emitted := none
        pendRun := none
        reply := some (.code (BitVec.ofNat 6 (p + r.toNat) ++ l) false) })

/-- A degenerate code is counted, in DEGEN_COUNT and in STATUS.DEGEN_COUNT (10_state.md R70); with merging on it is absorbed
into the run held back and the operation reads on; with merging off it is passed unchanged: returned in coefficient mode, and
in pixel mode it only moves the position (44_filter.md R501 to R504; 45_reconstruction.md R558, "A zero level only advances
the position"). -/
def Obligations.DegenerateCodeIsCounted : Prop :=
  ∀ (r : BitVec 6) (e : Emitted) (s : State), s.running ≠ .idle → s.emitted = some e → e.first = false →
    s.dstate = .active →
    (s.cfg.filterMerge = true →
      exec (.mdecAc r 0#10) s = .next { s with
        emitted := none
        degenCount := s.degenCount + 1
        status := { s.status with degenCount := s.degenCount + 1 }
        pendRun := some (match s.pendRun with | none => r.toNat + 1 | some p => p + r.toNat + 1) }) ∧
    (s.cfg.filterMerge = false → s.running = .readCode →
      exec (.mdecAc r 0#10) s = .next { s with
        running := .idle
        emitted := none
        degenCount := s.degenCount + 1
        status := { s.status with degenCount := s.degenCount + 1 }
        reply := some (.code (r ++ 0#10) false) }) ∧
    (s.cfg.filterMerge = false → s.running = .decodeFrame → s.rpos + r.toNat + 1 ≤ 63 →
      exec (.mdecAc r 0#10) s = .next { s with
        emitted := none
        degenCount := s.degenCount + 1
        status := { s.status with degenCount := s.degenCount + 1 }
        rpos := s.rpos + r.toNat + 1 })

/-- In pixel mode the first code starts the block: the matrix and the block's registers are cleared, the qscale is its
top field, and a DC that is not 0 is stored at index 0 times `QT_ACTIVE[0]`, not divided
(45_reconstruction.md R556, R557). -/
def Obligations.FirstCodeStartsTheBlock : Prop :=
  ∀ (q : BitVec 6) (d : BitVec 10) (e : Emitted) (s : State), s.running = .decodeFrame → s.emitted = some e →
    e.first = true → s.dstate = .active →
    ∃ blk : Vector Sample 64,
      (∀ k : Fin 64, blk[k] =
        if k = 0 ∧ d ≠ 0#10 then
          (match s.cfg.variant with
            | .int => Sample.int (d.toInt * s.qtActive[0].toNat)
            | .float => Sample.float (doubleOfInt (d.toInt * s.qtActive[0].toNat)))
        else zeroSample s.cfg.variant) ∧
      exec (.mdecDc q d) s = .next { s with
        emitted := none
        pendRun := none
        blk := blk
        nzCount := if d = 0#10 then 0 else 1
        lastNz := if d = 0#10 then none else some 0
        blkQscale := q
        rpos := 0 }

/-- In pixel mode a later code that is not degenerate, its run with what the filter holds back, moves the position by
the run and one; there, within 63, its dequantized level is stored through the zig-zag, counted and remembered; beyond 63
it is RUN_OUT_OF_BOUNDS (45_reconstruction.md R558, R559, R560, R561; 44_filter.md R503). -/
def Obligations.LaterCodeIsStored : Prop :=
  ∀ (r : BitVec 6) (l : BitVec 10) (e : Emitted) (run : Nat) (s : State), s.running = .decodeFrame →
    s.emitted = some e → e.first = false → s.dstate = .active → l ≠ 0#10 → ¬ (r = 63#6 ∧ l = -512#10) →
    (run = if s.cfg.filterMerge then s.pendRun.getD 0 + r.toNat else r.toNat) →
    (∀ pos : Fin 64, pos.val = s.rpos + run + 1 →
      exec (.mdecAc r l) s = .next { s with
        emitted := none
        pendRun := if s.cfg.filterMerge then none else s.pendRun
        rpos := s.rpos + run + 1
        blk := s.blk.set (s.params.zigzag[pos])
          (match s.cfg.variant with
            | .int => Sample.int ((l.toInt * s.qtActive[pos].toNat * s.blkQscale.toNat + 4) / 8)
            | .float => Sample.float (doubleOfScaled (l.toInt * s.qtActive[pos].toNat * s.blkQscale.toNat) 3))
        nzCount := s.nzCount + 1
        lastNz := some (s.params.zigzag[pos]) }) ∧
    (63 < s.rpos + run + 1 →
      ∃ t, exec (.mdecAc r l) s = .next t ∧ t.running = .idle ∧ t.dstate = .failed ∧
        t.status.errCause = some .runOutOfBounds ∧
        t.status.errCtx = some
          { phase := .block
            fmt := s.fmt
            mbIndex := some e.mbIndex
            mbPixel := some (s.cfg.mbPixel e.mbIndex)
            role := some e.role
            codesInBlock := some e.codesInBlock
            bitPos := some e.start
            value := some (.number (s.rpos + run + 1 : Nat)) })

/-- In pixel mode the end of block writes the 64 samples of the block at the origin of its macroblock and role and no
other sample, and ends the operation after the last block (45_reconstruction.md R562, R569; 47_host_interface.md R654). -/
def Obligations.EndOfBlockWritesTheBlock : Prop :=
  ∀ (e : Emitted) (s : State), s.Inv → s.running = .decodeFrame → s.emitted = some e → e.first = false →
    e.code = ⟨63#6, -512#10⟩ →
    ∃ t, exec .mdecEob s = .next t ∧
      (∀ p x y, p.Inside s.cfg x y →
        planeRead t p x y =
          if p = e.role.plane ∧ (blockOrigin s.cfg e.mbIndex e.role).1 ≤ x ∧
              x < (blockOrigin s.cfg e.mbIndex e.role).1 + 8 ∧ (blockOrigin s.cfg e.mbIndex e.role).2 ≤ y ∧
              y < (blockOrigin s.cfg e.mbIndex e.role).2 + 8 then
            blockSample s (Fin.ofNat 64
              (8 * (y - (blockOrigin s.cfg e.mbIndex e.role).2) + (x - (blockOrigin s.cfg e.mbIndex e.role).1)))
          else planeRead s p x y) ∧
      t = { s with
        emitted := none
        pendRun := none
        planeY := t.planeY
        planeCb := t.planeCb
        planeCr := t.planeCr
        running := if s.dstate = .active then .decodeFrame else .idle
        reply := if s.dstate = .active then s.reply else some .ok
        status := if s.dstate = .active then s.status else
          { s.status with
            warn := { s.status.warn with
              degenerateCodes := s.status.warn.degenerateCodes || decide (0 < s.degenCount) }
            degenCount := s.degenCount } }

/-- The origins of the blocks: macroblocks of 16x16 pixels down the columns, chroma blocks at half their position, the
four luma blocks in reading order (40_mdec_code.md R206; 45_reconstruction.md R569); each block lies inside its plane. -/
def Obligations.EveryBlockHasItsPlace : Prop :=
  (∀ (c : Cfg) (i : Nat),
    (Role.plane .cr = .cr ∧ blockOrigin c i .cr = (i / c.mbH * 16 / 2, i % c.mbH * 16 / 2)) ∧
    (Role.plane .cb = .cb ∧ blockOrigin c i .cb = (i / c.mbH * 16 / 2, i % c.mbH * 16 / 2)) ∧
    (Role.plane .y1 = .y ∧ blockOrigin c i .y1 = (i / c.mbH * 16, i % c.mbH * 16)) ∧
    (Role.plane .y2 = .y ∧ blockOrigin c i .y2 = (i / c.mbH * 16 + 8, i % c.mbH * 16)) ∧
    (Role.plane .y3 = .y ∧ blockOrigin c i .y3 = (i / c.mbH * 16, i % c.mbH * 16 + 8)) ∧
    (Role.plane .y4 = .y ∧ blockOrigin c i .y4 = (i / c.mbH * 16 + 8, i % c.mbH * 16 + 8))) ∧
  ∀ (c : Cfg) (i : Nat) (r : Role) (x y : Nat), i < c.mbCount → x < 8 → y < 8 →
    r.plane.Inside c ((blockOrigin c i r).1 + x) ((blockOrigin c i r).2 + y) ∧
    blockNumber c r.plane ((blockOrigin c i r).1 + x) ((blockOrigin c i r).2 + y) = 6 * i + r.index

/-- Every sample of every plane is in exactly one block of the frame (45_reconstruction.md R570). -/
def Obligations.EverySampleIsInOneBlock : Prop :=
  ∀ (c : Cfg) (p : PlaneId) (x y : Nat), p.Inside c x y →
    ∃ i r, (i < c.mbCount ∧ r.plane = p ∧ (blockOrigin c i r).1 ≤ x ∧ x < (blockOrigin c i r).1 + 8 ∧
        (blockOrigin c i r).2 ≤ y ∧ y < (blockOrigin c i r).2 + 8) ∧
      ∀ i' r', i' < c.mbCount → r'.plane = p → (blockOrigin c i' r').1 ≤ x → x < (blockOrigin c i' r').1 + 8 →
        (blockOrigin c i' r').2 ≤ y → y < (blockOrigin c i' r').2 + 8 → i' = i ∧ r' = r

/-- Floating-point dequantization is exact: an AC coefficient is the finite binary64 whose value times 8 is the product
(45_reconstruction.md R561), the DC is the finite binary64 equal to `dc * QT_ACTIVE[0]` (R557). -/
def Obligations.FloatDequantizationIsExact : Prop :=
  (∀ (l : BitVec 10) (q : Byte) (qscale : BitVec 6), ∃ b neg units,
    dequantAc .float l.toInt q qscale.toNat = .float b ∧ classOfDouble b = .finite neg units ∧
    8 * signedUnits neg units = l.toInt * q.toNat * qscale.toNat * (2 ^ 1074 : Nat)) ∧
  ∀ (d : BitVec 10) (q : Byte), ∃ b neg units,
    dequantDc .float d.toInt q = .float b ∧ b = doubleOfInt (d.toInt * q.toNat) ∧
    classOfDouble b = .finite neg units ∧ signedUnits neg units = d.toInt * q.toNat * (2 ^ 1074 : Nat)

/-- The default floating-point inverse DCT is held to the formula of 45_reconstruction.md R566: for coefficients within
2^20, which bounds every coefficient of the core, the sample is finite and differs from the formula, over the real numbers,
by at most 1e-9 times one plus the sum of the coefficients' magnitudes (that bound is the model's choice, log 7); the
single-coefficient one is the same function of the matrix that holds the one coefficient (R566). -/
def Obligations.FloatIdctIsHeldToTheFormula : Prop :=
  ∀ (p : Params) (k : Fin 64), p.floatIdct = .default →
    (∀ (blk : List Double) (units : List Int), blk.length = 64 → finiteUnits blk = some units →
      (∀ u ∈ units, u.natAbs ≤ 2 ^ 1094) →
      ∃ neg v, classOfDouble (idctFloat p blk k) = .finite neg v ∧
        |(signedUnits neg v : ℝ) / 2 ^ 1074 -
          1 / 4 * ∑ u ∈ Finset.range 8, ∑ w ∈ Finset.range 8,
            (if u = 0 then 1 / √2 else 1) * (if w = 0 then 1 / √2 else 1) *
              ((units.getD (8 * w + u) 0 : ℤ) / 2 ^ 1074 : ℝ) *
              Real.cos ((2 * (k.val % 8 : ℕ) + 1) * u * Real.pi / 16) *
              Real.cos ((2 * (k.val / 8 : ℕ) + 1) * w * Real.pi / 16)|
        ≤ (1 + ((units.map Int.natAbs).sum : ℝ) / 2 ^ 1074) / 10 ^ 9) ∧
    ∀ (m : Fin 64) (c : Double),
      idct1Float p m c k = idctFloat p (List.ofFn (fun i : Fin 64 => if i = m then c else 0#64)) k

/-- In pixel mode a frame error returns with the planes complete: every sample of the failing block and of every later
block is 0, every other sample is as it was (45_reconstruction.md R573; 60_exceptions.md R713).  The failing codeword is
any that a decoder step rejects. -/
def Obligations.ErrorZeroFillsTheRest : Prop :=
  ∀ (s t : State), s.Inv → s.running = .decodeFrame → s.emitted = none → step s = .next t → t.dstate = .failed →
    ∀ p x y, p.Inside s.cfg x y →
      planeRead t p x y =
        if blockNumber s.cfg p x y < 6 * s.trk.mbIndex + s.trk.role.index then planeRead s p x y
        else zeroSample s.cfg.variant

/-! ## The host's commands -/

/-- CONFIGURE with a legal size and a defined upsampler resets every element of the core to its value of
70_reset_and_hazards.md R750, takes the operands as CFG, and answers OK (47_host_interface.md R650). -/
def Obligations.ConfigureResetsTheCore : Prop :=
  ∀ (width height : Int) (v : Variant) (merge : Bool) (u : Upsampler) (s : State), s.running = .idle →
    1 ≤ width → width ≤ s.params.maxDim.toNat → 1 ≤ height → height ≤ s.params.maxDim.toNat →
    (u = .nearest ∨ ∃ k ∈ s.params.kernels, u = .kernel k) →
    exec (.configure width height v merge u) s = .next
      { params := s.params
        hostIn := s.hostIn
        reply := some .ok
        running := .idle
        emitted := none
        configured := true
        cfg := ⟨BitVec.ofInt 16 width, BitVec.ofInt 16 height, v, merge, u⟩
        qt := s.params.quantDefault
        qtActive := s.params.quantDefault
        inBuf := []
        fmt := none
        hdr := ⟨none, none, none, none, none, none, none, none⟩
        bitPos := 0
        streamBits := 0
        dstate := .idle
        trk := ⟨0, .cr, true, 0, 0, 0, 0⟩
        vpos := 0
        prevDc := ⟨0, 0, 0⟩
        degenCount := 0
        pendRun := none
        blk := Vector.replicate 64 (zeroSample v)
        nzCount := 0
        lastNz := none
        blkQscale := 0#6
        rpos := 0
        planeY := []
        planeCb := []
        planeCr := []
        status := ⟨.none, none, none, ⟨false, false⟩, 0⟩
        frameMode := .none
        outRgb := s.outRgb
        outYuv := s.outYuv }

/-- A command that is not legal, or whose operands are not, is REFUSED: nothing but the outcome changes
(47_host_interface.md R648, R650, R651, R655, R656, R660).  That a table of other than 64 entries is REFUSED is the model's
choice (log 26): R651 takes 64 integers and says nothing of another number. -/
def Obligations.IllegalCommandsAreRefused : Prop :=
  ∀ (i : Instr) (s : State), s.running = .idle →
    ((∃ w h v m u, i = .configure w h v m u ∧
        (w < 1 ∨ (s.params.maxDim.toNat : Int) < w ∨ h < 1 ∨ (s.params.maxDim.toNat : Int) < h ∨
          ∃ k, u = .kernel k ∧ k ∉ s.params.kernels)) ∨
     (∃ table, i = .setQuant table ∧
        (s.configured = false ∨ table.length ≠ 64 ∨ ∃ v ∈ table, v < 0 ∨ 255 < v)) ∨
     (∃ bytes, i = .loadFrame bytes ∧ s.configured = false) ∨
     (i = .readCode ∧ (s.configured = false ∨ s.dstate = .idle ∨ s.frameMode = .pixels)) ∨
     (i = .decodeFrame ∧ (s.configured = false ∨ s.dstate = .idle ∨ s.frameMode ≠ .none)) ∨
     (∃ len offset stride, i = .readRgb len offset stride ∧
        (s.configured = false ∨ stride < s.cfg.width.toNat ∨
          len < offset + (s.cfg.height.toNat - 1) * stride + s.cfg.width.toNat)) ∨
     (∃ len space, i = .readYcbcr420 len space ∧
        (s.configured = false ∨ s.cfg.width.toNat % 2 = 1 ∨ s.cfg.height.toNat % 2 = 1 ∨
          len < s.cfg.width.toNat * s.cfg.height.toNat
            + 2 * (s.cfg.width.toNat / 2) * (s.cfg.height.toNat / 2)))) →
    exec i s = .next { s with reply := some .refused }

/-- SET_QUANT copies a table of 64 entries in 0..255 into QT and writes nothing else: QT_ACTIVE stands
(47_host_interface.md R651; 10_state.md R56). -/
def Obligations.SetQuantWritesQt : Prop :=
  ∀ (table : List Int) (s : State), s.running = .idle → s.configured = true → table.length = 64 →
    (∀ v ∈ table, 0 ≤ v ∧ v ≤ 255) →
    ∃ qt : Vector Byte 64, (∀ k : Fin 64, ((qt[k].toNat : Nat) : Int) = table.getD k.val 0) ∧
      exec (.setQuant table) s = .next { s with qt := qt, reply := some .ok }

/-- LOAD_FRAME of a frame with a good mainline header at offset 0 (41_entropy_header.md R251, R255, R258;
47_host_interface.md R652; 70_reset_and_hazards.md R752): the frame becomes ACTIVE with the header's fields, the format
by the version, and QT_ACTIVE a copy of QT; an odd byte is warned of (20_memory.md R106). -/
def Obligations.LoadFrameMainline : Prop :=
  ∀ (bytes : List Byte) (rlc version : Half) (q : BitVec 6) (s : State), s.running = .idle → s.configured = true →
    1 ≤ s.cfg.width.toNat → 1 ≤ s.cfg.height.toNat → 8 ≤ bytes.length →
    memRead16 bytes 0 = some rlc → memRead16 bytes 2 = some 0x3800#16 → memRead16 bytes 4 = some (q.setWidth 16) →
    memRead16 bytes 6 = some version → q ≠ 0#6 →
    (version = 3#16 →
      exec (.loadFrame bytes) s = .next (loadedFrame s bytes 0 .strDiff .diff rlc version q)) ∧
    (version ≠ 3#16 → version = 2#16 ∨ version ∈ s.params.extraSharedVersions →
      exec (.loadFrame bytes) s = .next (loadedFrame s bytes 0 .strShared .shared rlc version q))

/-- LOAD_FRAME of a frame whose header stands behind a 40-byte prefix (41_entropy_header.md R251, R255): the same at
base 40, the format PREFIX40; the prefix is not interpreted. -/
def Obligations.LoadFramePrefix40 : Prop :=
  ∀ (bytes : List Byte) (rlc version : Half) (q : BitVec 6) (s : State), s.running = .idle → s.configured = true →
    1 ≤ s.cfg.width.toNat → 1 ≤ s.cfg.height.toNat → 48 ≤ bytes.length → memRead16 bytes 2 ≠ some 0x3800#16 →
    memRead16 bytes 40 = some rlc → memRead16 bytes 42 = some 0x3800#16 →
    memRead16 bytes 44 = some (q.setWidth 16) → memRead16 bytes 46 = some version → q ≠ 0#6 →
    (version = 3#16 →
      exec (.loadFrame bytes) s = .next (loadedFrame s bytes 40 .prefix40 .diff rlc version q)) ∧
    (version ≠ 3#16 → version = 2#16 ∨ version ∈ s.params.extraSharedVersions →
      exec (.loadFrame bytes) s = .next (loadedFrame s bytes 40 .prefix40 .shared rlc version q))

/-- LOAD_FRAME of a bad header, at offset 0 or behind the 40-byte prefix, ends the frame at once: the checks run in the
order marker, zero qscale, qscale range, version (41_entropy_header.md R251, R255; 60_exceptions.md R702, R708), the error
is recorded with phase HEADER and returned (R705, R712), and the planes and the filter's and the tracker's fresh values
stand as at the frame's start.  FMT and the context's format, none at offset 0 and PREFIX40 behind the prefix, are the
model's inference (log 18): R705 says "none, or the format being parsed". -/
def Obligations.LoadFrameBadHeader : Prop :=
  ∀ (bytes : List Byte) (base : Nat) (fmt : Option Fmt) (q version : Half) (cause : Cause) (value : CtxValue)
    (s : State), s.running = .idle → s.configured = true →
    ((base = 0 ∧ fmt = none ∧ 8 ≤ bytes.length) ∨
     (base = 40 ∧ fmt = some .prefix40 ∧ 48 ≤ bytes.length ∧ memRead16 bytes 2 ≠ some 0x3800#16)) →
    memRead16 bytes (base + 2) = some 0x3800#16 → memRead16 bytes (base + 4) = some q →
    memRead16 bytes (base + 6) = some version →
    ((q = 0#16 ∧ cause = .zeroQscale ∧ value = .number 0) ∨
     (63 < q.toNat ∧ cause = .qscaleRange ∧ value = .number q.toNat) ∨
     (q ≠ 0#16 ∧ q.toNat ≤ 63 ∧ version ≠ 3#16 ∧ version ≠ 2#16 ∧ version ∉ s.params.extraSharedVersions ∧
       cause = .badVersion ∧ value = .number version.toNat)) →
    ∃ t, exec (.loadFrame bytes) s = .next t ∧
      t.reply = some (.readCorruption cause ⟨.header, fmt, none, none, none, none, none, some value⟩) ∧
      t.dstate = .failed ∧ t.fmt = fmt ∧
      t.status = ⟨.readCorruption, some cause, some ⟨.header, fmt, none, none, none, none, none, some value⟩,
        ⟨false, false⟩, 0⟩ ∧
      t.trk = ⟨0, .cr, true, 0, 0, 0, 0⟩ ∧ t.degenCount = 0 ∧ t.pendRun = none ∧ t.frameMode = .none ∧
      t.inBuf = bytes ∧ t.qtActive = s.qt ∧ t.planeY = s.planeY ∧ t.planeCb = s.planeCb ∧ t.planeCr = s.planeCr ∧
      t.qt = s.qt ∧ t.cfg = s.cfg

/-- LOAD_FRAME of a buffer that no layout recognises, neither a mainline one nor a title format's own match, records and
returns UNRECOGNIZED_HEADER, with the bytes at offset 2 as the value if there are any (41_entropy_header.md R251;
47_host_interface.md R652; 60_exceptions.md R702, R712). -/
def Obligations.LoadFrameUnrecognized : Prop :=
  ∀ (bytes : List Byte) (ctx : Ctx) (s : State), s.running = .idle → s.configured = true →
    (8 ≤ bytes.length → memRead16 bytes 2 ≠ some 0x3800#16) →
    (48 ≤ bytes.length → memRead16 bytes 42 ≠ some 0x3800#16) →
    (∀ f ∈ s.params.titleFormats,
      Config.titleMatch f.name f.markerRequired (bytes.take 50) bytes.length = false) →
    ctx = ⟨.header, none, none, none, none, none, none,
      if 4 ≤ bytes.length then (memRead16 bytes 2).map (fun w => .number w.toNat) else none⟩ →
    ∃ t, exec (.loadFrame bytes) s = .next t ∧ t.reply = some (.readCorruption .unrecognizedHeader ctx) ∧
      t.dstate = .failed ∧ t.fmt = none ∧
      t.status = ⟨.readCorruption, some .unrecognizedHeader, some ctx, ⟨false, false⟩, 0⟩

/-- READ_CODE of a finished frame is DONE, of a failed one the recorded error again; both read nothing
(47_host_interface.md R653; 40_mdec_code.md R217; 60_exceptions.md R712). -/
def Obligations.ReadCodeAfterTheEnd : Prop :=
  ∀ (s : State), s.Inv → s.running = .idle → s.configured = true → s.frameMode ≠ .pixels →
    (s.dstate = .done → exec .readCode s = .next { s with frameMode := .codes, reply := some .done }) ∧
    (s.dstate = .failed → ∃ r, recordedReply s = some r ∧
      exec .readCode s = .next { s with frameMode := .codes, reply := some r })

/-- DECODE_FRAME of a frame that failed in its header fills every plane with 0 and returns the error
(47_host_interface.md R654; 60_exceptions.md R712, R713). -/
def Obligations.DecodeFrameAfterBadHeader : Prop :=
  ∀ (s : State), s.Inv → s.running = .idle → s.configured = true → s.frameMode = .none → s.dstate = .failed →
    ∃ t r, exec .decodeFrame s = .next t ∧ recordedReply s = some r ∧
      t = { s with frameMode := .pixels, reply := some r, planeY := t.planeY, planeCb := t.planeCb,
                   planeCr := t.planeCr } ∧
      ∀ p x y, p.Inside s.cfg x y → planeRead t p x y = zeroSample s.cfg.variant

/-- READ_CODE at the start of a block of a shared-DC frame returns the block's DC code with flag 0
(47_host_interface.md R653; 42_entropy_dc.md R300). -/
def Obligations.ReadCodeReturnsTheDc : Prop :=
  ∀ (d : BitVec 10) (q : BitVec 6) (body : Nat) (s : State), s.Inv → s.running = .idle → s.configured = true →
    s.dstate = .active → s.frameMode ≠ .pixels → s.trk.firstOfBlock = true → s.hdr.dcMode = some .shared →
    ownDc s.params s.fmt = none → (if s.trk.role.isLuma then s.hdr.qscaleL else s.hdr.qscaleC) = some q →
    s.hdr.body = some body → s.bitPos + 10 ≤ s.streamBits → (peek s body window).take 10 = bitsOf d →
    exec .readCode s = .next { s with
      frameMode := .codes
      bitPos := s.bitPos + 10
      vpos := 0
      pendRun := none
      trk := { s.trk with
        codesInBlock := s.trk.codesInBlock + 1
        totalCodes := s.trk.totalCodes + 1
        firstOfBlock := false }
      reply := some (.code (q ++ d) false) }

/-- DECODE_FRAME of a shared-DC frame of any size whose blocks have no AC code reads exactly twelve bits a block and
ends OK with the frame DONE; a block whose DC is 0 has the samples 0 (47_host_interface.md R654;
45_reconstruction.md R562, R572; the source's single-macroblock scenario, 95_test_vectors.md E6). -/
def Obligations.DecodeFrameOfDcOnlyBlocks : Prop :=
  ∀ (s : State) (body : Nat) (d : Nat → BitVec 10), s.Inv → s.running = .idle → s.configured = true →
    s.dstate = .active → s.frameMode = .none → s.bitPos = 0 → s.hdr.dcMode = some .shared →
    s.hdr.acTable = some .main → s.params.acVlcTable = none → ownDc s.params s.fmt = none →
    s.hdr.body = some body → DcOnlyStream s body d →
    ∃ t, exec .decodeFrame s = .next t ∧ t.reply = some .ok ∧ t.running = .idle ∧ t.dstate = .done ∧
      t.bitPos = 72 * s.cfg.mbCount ∧
      t.trk = ⟨s.cfg.mbCount, .cr, true, 0, 12 * s.cfg.mbCount, 6 * s.cfg.mbCount, s.cfg.mbCount⟩ ∧
      ∀ p x y, p.Inside s.cfg x y → d (blockNumber s.cfg p x y) = 0#10 →
        planeRead t p x y = zeroSample s.cfg.variant

/-- READ_RGB writes pixel (x, y) of the frame at OFFSET + y * STRIDE + x, for the exact width and height, writes no
other element and no state of the core (47_host_interface.md R655; 20_memory.md R121). -/
def Obligations.ReadRgbWritesThePixels : Prop :=
  ∀ (len offset stride : Nat) (s : State), s.running = .idle → s.configured = true →
    Memory.wf none s.outRgb = true → s.cfg.width.toNat ≤ stride →
    offset + (s.cfg.height.toNat - 1) * stride + s.cfg.width.toNat ≤ len →
    ∃ t, exec (.readRgb len offset stride) s = .next t ∧
      t = { s with outRgb := t.outRgb, reply := some .ok } ∧ Memory.wf none t.outRgb = true ∧
      (∀ x y, x < s.cfg.width.toNat → y < s.cfg.height.toNat →
        Memory.read none t.outRgb (offset + y * stride + x) = some (pixelAt s x y)) ∧
      (∀ a, (∀ x y, x < s.cfg.width.toNat → y < s.cfg.height.toNat → a ≠ offset + y * stride + x) →
        Memory.read none t.outRgb a = Memory.read none s.outRgb a)

/-- With NEAREST the chroma of pixel (x, y) is the sample of each chroma plane at (x / 2, y / 2) (46_color.md R601).  The
default conversion of integer samples within 2^30 gives, in each channel, the floor of the exact value of 46_color.md R610
plus 128.5, clamped to 0..255 (R611); channels whose exact value plus 128.5 is an integer are left out, where the
evaluation order, the model's choice (log 8), could decide.  Right after CONFIGURE every pixel READ_RGB writes is
(128, 128, 128) (47_host_interface.md R655). -/
def Obligations.NearestAndTheDefaultConversion : Prop :=
  (∀ (s : State) (x y : Nat), s.cfg.upsampler = .nearest →
    chromaAt s x y = ⟨planeRead s .cb (x / 2) (y / 2), planeRead s .cr (x / 2) (y / 2)⟩ ∧
    pixelAt s x y
      = consoleToRgb s.params (planeRead s .y x y) (planeRead s .cb (x / 2) (y / 2)) (planeRead s .cr (x / 2) (y / 2))) ∧
  (∀ (p : Params) (y cb cr : Int), p.rgbConversion = .default → y.natAbs ≤ 2 ^ 30 → cb.natAbs ≤ 2 ^ 30 →
    cr.natAbs ≤ 2 ^ 30 →
    ((10000 * y + 14020 * cr + 1285000) % 10000 ≠ 0 →
      ((consoleToRgb p (.int y) (.int cb) (.int cr)).r.toNat : Int)
        = min 255 (max 0 ((10000 * y + 14020 * cr + 1285000) / 10000))) ∧
    ((10000 * y - 3437 * cb - 7143 * cr + 1285000) % 10000 ≠ 0 →
      ((consoleToRgb p (.int y) (.int cb) (.int cr)).g.toNat : Int)
        = min 255 (max 0 ((10000 * y - 3437 * cb - 7143 * cr + 1285000) / 10000))) ∧
    ((10000 * y + 17720 * cb + 1285000) % 10000 ≠ 0 →
      ((consoleToRgb p (.int y) (.int cb) (.int cr)).b.toNat : Int)
        = min 255 (max 0 ((10000 * y + 17720 * cb + 1285000) / 10000)))) ∧
  ∀ (width height : Int) (v : Variant) (merge : Bool) (len offset stride x y : Nat) (s t u : State),
    s.params.rgbConversion = .default → exec (.configure width height v merge .nearest) s = .next t →
    t.reply = some .ok → exec (.readRgb len offset stride) t = .next u → u.reply = some .ok →
    x < t.cfg.width.toNat → y < t.cfg.height.toNat → Memory.wf none s.outRgb = true →
    Memory.read none u.outRgb (offset + y * stride + x) = some ⟨128#8, 128#8, 128#8⟩

/-- READ_YCBCR420 of an even frame writes the cropped Y plane, then Cb, then Cr, row-major from element 0, in the console's
colour space as they are; it writes no other element and no state of the core (47_host_interface.md R656;
46_color.md R615). -/
def Obligations.ReadYcbcr420WritesThePlanes : Prop :=
  ∀ (len : Nat) (s : State), s.running = .idle → s.configured = true → Memory.wf none s.outYuv = true →
    s.cfg.width.toNat % 2 = 0 → s.cfg.height.toNat % 2 = 0 →
    s.cfg.width.toNat * s.cfg.height.toNat + 2 * (s.cfg.width.toNat / 2) * (s.cfg.height.toNat / 2) ≤ len →
    ∃ t, exec (.readYcbcr420 len .console) s = .next t ∧
      t = { s with outYuv := t.outYuv, reply := some .ok } ∧ Memory.wf none t.outYuv = true ∧
      (∀ x y, x < s.cfg.width.toNat → y < s.cfg.height.toNat →
        Memory.read none t.outYuv (y * s.cfg.width.toNat + x) = some (planeRead s .y x y)) ∧
      (∀ x y, x < s.cfg.width.toNat / 2 → y < s.cfg.height.toNat / 2 →
        Memory.read none t.outYuv
          (s.cfg.width.toNat * s.cfg.height.toNat + y * (s.cfg.width.toNat / 2) + x) = some (planeRead s .cb x y) ∧
        Memory.read none t.outYuv
          (s.cfg.width.toNat * s.cfg.height.toNat + (s.cfg.width.toNat / 2) * (s.cfg.height.toNat / 2)
            + y * (s.cfg.width.toNat / 2) + x) = some (planeRead s .cr x y)) ∧
      (∀ a, s.cfg.width.toNat * s.cfg.height.toNat + 2 * (s.cfg.width.toNat / 2) * (s.cfg.height.toNat / 2) ≤ a →
        Memory.read none t.outYuv a = Memory.read none s.outYuv a)

/-- READ_YCBCR420 to the broadcast colour space writes, element by element, what REC601_CONVERT gives of the cropped
planes (46_color.md R616; the conversion is a free value, log 10). -/
def Obligations.ReadRec601WritesTheConversion : Prop :=
  ∀ (len : Nat) (s : State), s.running = .idle → s.configured = true → Memory.wf none s.outYuv = true →
    s.cfg.width.toNat % 2 = 0 → s.cfg.height.toNat % 2 = 0 →
    s.cfg.width.toNat * s.cfg.height.toNat + 2 * (s.cfg.width.toNat / 2) * (s.cfg.height.toNat / 2) ≤ len →
    ∃ t, exec (.readYcbcr420 len .rec601) s = .next t ∧
      t = { s with outYuv := t.outYuv, reply := some .ok } ∧
      (∀ a, a < s.cfg.width.toNat * s.cfg.height.toNat + 2 * (s.cfg.width.toNat / 2) * (s.cfg.height.toNat / 2) →
        Memory.read none t.outYuv a =
          some (Config.rec601 s.cfg.variant s.cfg.width.toNat s.cfg.height.toNat (croppedPlanes s) a)) ∧
      (∀ a, s.cfg.width.toNat * s.cfg.height.toNat + 2 * (s.cfg.width.toNat / 2) * (s.cfg.height.toNat / 2) ≤ a →
        Memory.read none t.outYuv a = Memory.read none s.outYuv a)

/-- QUERY_STATUS answers with the status record and changes nothing else; before the first CONFIGURE it reports none for
all but CONFIGURED (47_host_interface.md R657; 70_reset_and_hazards.md R751; 40_mdec_code.md R211). -/
def Obligations.QueryStatusReports : Prop :=
  ∀ (s : State), s.running = .idle →
    (s.configured = false → exec .queryStatus s = .next { s with reply := some (.status ⟨false, none⟩) }) ∧
    (s.configured = true → exec .queryStatus s = .next { s with
      reply := some (.status ⟨true, some
        { dstate := s.dstate
          frameMode := s.frameMode
          fmt := s.fmt
          hdr := s.hdr
          streamBits := s.streamBits
          bitPos := s.bitPos
          status := s.status
          trk := s.trk
          mbPixel := (s.trk.mbIndex / s.cfg.mbH * 16, s.trk.mbIndex % s.cfg.mbH * 16) }⟩) })

/-! ## The operations as runs of steps -/

/-- READ_CODE and DECODE_FRAME on an ACTIVE frame are the runs of the core's own steps from the state in which their loop
starts, one codeword or code a step, until the operation ends: so what the statements above say of one codeword holds
inside them (47_host_interface.md R653, R654).  That an operation is built of such micro-steps is the model's DESIGN CHOICE
(log 4): the spec has the operation as one atomic step (70_reset_and_hazards.md R770).  They answer a next state: the
operation has ended, with a code or OK, or with the frame's error. -/
def Obligations.OperationsAreRunsOfSteps : Prop :=
  ∀ (s : State), s.Inv → s.running = .idle → s.configured = true → s.dstate = .active →
    (s.frameMode ≠ .pixels → ∃ n t, exec .readCode s = .next t ∧
      Host.Core.run Sys2Proof.core n { s with frameMode := .codes, running := .readCode } = .next t ∧
      (∀ m, m < n → ∃ u, Host.Core.run Sys2Proof.core m { s with frameMode := .codes, running := .readCode } = .next u ∧
        u.running = .readCode) ∧
      t.running = .idle ∧ ((∃ w flag, t.reply = some (.code w flag)) ∨
        (t.dstate = .failed ∧ t.reply = recordedReply t))) ∧
    (s.frameMode = .none → ∃ n t, exec .decodeFrame s = .next t ∧
      Host.Core.run Sys2Proof.core n { s with frameMode := .pixels, running := .decodeFrame } = .next t ∧
      (∀ m, m < n → ∃ u,
        Host.Core.run Sys2Proof.core m { s with frameMode := .pixels, running := .decodeFrame } = .next u ∧
        u.running = .decodeFrame) ∧
      t.running = .idle ∧ ((t.dstate = .done ∧ t.reply = some .ok) ∨
        (t.dstate = .failed ∧ t.reply = recordedReply t)))

/-! ## Invariants and rules of the whole machine -/

/-- The state at power-on is CONFIGURED = 0, with no request and no outcome, and every command but CONFIGURE and
QUERY_STATUS is REFUSED there (70_reset_and_hazards.md R751). -/
def Obligations.PowerOn : Prop :=
  State.reset.configured = false ∧ State.reset.hostIn = [] ∧ State.reset.reply = none ∧
  (∀ i : Instr, contextOf i = .command → (∀ w h v m u, i ≠ .configure w h v m u) → i ≠ .queryStatus →
    exec i State.reset = .next { State.reset with reply := some .refused })

/-- The invariant holds at power-on (the values there are the model's choice, log 3). -/
def Obligations.ResetHasTheInvariant : Prop := State.reset.Inv

/-- Every step keeps the invariant, from every state that has it. -/
def Obligations.StepKeepsTheInvariant : Prop :=
  ∀ (s t : State), s.Inv → step s = .next t → t.Inv

/-- From a state with the invariant no step stops: no fault and no refusal (60_exceptions.md R720, R721;
70_reset_and_hazards.md R753). -/
def Obligations.NoStepStops : Prop :=
  ∀ (s : State), s.Inv → ∃ t, step s = .next t

/-- Between operations every step is a whole operation: the next state is between operations again
(10_state.md R50; 70_reset_and_hazards.md R770). -/
def Obligations.EveryOperationEnds : Prop :=
  ∀ (s t : State), s.Inv → s.running = .idle → step s = .next t → t.running = .idle

/-- RUN_OUT_OF_BOUNDS is never raised: with the entropy decoder as the source its run check fails first
(45_reconstruction.md R559). -/
def Obligations.NoRunOutOfBounds : Prop :=
  ∀ (s t : State), s.Inv → step s = .next t →
    s.status.errCause ≠ some .runOutOfBounds → t.status.errCause ≠ some .runOutOfBounds

/-- A frame's error is sticky: while it stands, a step that takes no CONFIGURE and no LOAD_FRAME leaves the state FAILED
with the same record, the position and the bits as they were (10_state.md R70; 60_exceptions.md R712). -/
def Obligations.ErrorsAreSticky : Prop :=
  ∀ (s t : State), s.Inv → s.dstate = .failed → step s = .next t →
    (∀ request rest, s.hostIn = request :: rest → request.head? ≠ some 1#8 ∧ request.head? ≠ some 3#8) →
    t.dstate = .failed ∧ t.status = s.status ∧ t.trk = s.trk ∧ t.bitPos = s.bitPos ∧ t.vpos = s.vpos

/-- Only CONFIGURE writes CFG and CONFIGURED; only CONFIGURE and SET_QUANT write QT; only CONFIGURE and LOAD_FRAME write
QT_ACTIVE, IN, FMT, HDR and STREAM_BITS (10_state.md R53, R55, R56, R57, R58, R59, R60). -/
def Obligations.WhoWritesTheConfiguration : Prop :=
  ∀ (i : Instr) (s t : State), exec i s = .next t → (∀ w h v m u, i ≠ .configure w h v m u) →
    t.cfg = s.cfg ∧ t.configured = s.configured ∧ t.params = s.params ∧ t.hostIn = s.hostIn ∧
    ((∀ table, i ≠ .setQuant table) → t.qt = s.qt) ∧
    ((∀ bytes, i ≠ .loadFrame bytes) → t.qtActive = s.qtActive ∧ t.inBuf = s.inBuf ∧ t.fmt = s.fmt ∧ t.hdr = s.hdr ∧
      t.streamBits = s.streamBits)

/-- The bitstream is never rewound: but for CONFIGURE and LOAD_FRAME, BITPOS only grows, and never past the stream; nor
do the tracker's counters fall (20_memory.md R111, R112; 40_mdec_code.md R215). -/
def Obligations.NothingIsRewound : Prop :=
  ∀ (i : Instr) (s t : State), exec i s = .next t → (∀ w h v m u, i ≠ .configure w h v m u) →
    (∀ bytes, i ≠ .loadFrame bytes) → s.bitPos ≤ s.streamBits →
    s.bitPos ≤ t.bitPos ∧ t.bitPos ≤ t.streamBits ∧ s.trk.totalCodes ≤ t.trk.totalCodes ∧
    s.trk.totalBlocks ≤ t.trk.totalBlocks ∧ s.trk.totalMbs ≤ t.trk.totalMbs

/-- The planes are written only by CONFIGURE, by DECODE_FRAME and inside it: a LOAD_FRAME, a READ_CODE and the output
commands leave the image as it was (10_state.md R69; 70_reset_and_hazards.md R763; 46_color.md R600).  The host's arrays
are written only by the two output commands, each its own (20_memory.md R100, R121). -/
def Obligations.WhoWritesTheImages : Prop :=
  ∀ (i : Instr) (s t : State), exec i s = .next t →
    ((∀ w h v m u, i ≠ .configure w h v m u) → i ≠ .decodeFrame → s.running ≠ .decodeFrame →
      t.planeY = s.planeY ∧ t.planeCb = s.planeCb ∧ t.planeCr = s.planeCr) ∧
    ((∀ len offset stride, i ≠ .readRgb len offset stride) → t.outRgb = s.outRgb) ∧
    ((∀ len space, i ≠ .readYcbcr420 len space) → t.outYuv = s.outYuv)

/-- A codeword never touches what the consumer owns: while no error ends the frame, a codeword leaves the filter, the
reconstruction registers, the planes, STATUS, the mode and the outcome as they were (40_mdec_code.md R218). -/
def Obligations.CodewordsLeaveTheConsumerAlone : Prop :=
  ∀ (i : Instr) (code : Bits) (s t : State), encode i = .codeword code → exec i s = .next t → t.dstate ≠ .failed →
    t = { s with bitPos := s.bitPos + code.length, vpos := t.vpos, prevDc := t.prevDc, trk := t.trk,
                 emitted := t.emitted, dstate := t.dstate } ∧
    t.emitted ≠ none ∧ t.trk.totalCodes = s.trk.totalCodes + 1
end

