-- ==== Sys2Proof/Laws/Memory.lean ====
section
/-! SUPPORT. The laws of the sparse memories: a write is read back and leaves every other address alone, and every memory
operation keeps the canonical form (logs 16, 17). -/

namespace Sys2Proof.Machine

variable {α : Type}

/-- The addresses rise from a bound on: what `rising` says, split at the head. -/
theorem Memory.rising_cons (b : Option Nat) (a : Nat) (v : α) (m : Memory α) :
    Memory.rising b ((a, v) :: m) = true ↔ (∀ k, b = some k → k < a) ∧ Memory.rising (some a) m = true := by
  cases b <;> simp [Memory.rising]

/-- A lower bound is as good. -/
theorem Memory.rising_mono {m : Memory α} {a b : Nat} (h : Memory.rising (some b) m = true) (hab : a ≤ b) :
    Memory.rising (some a) m = true := by
  cases m with
  | nil => rfl
  | cons e m =>
    obtain ⟨k, v⟩ := e
    rw [Memory.rising_cons] at h ⊢
    exact ⟨fun j hj => Nat.lt_of_le_of_lt (by cases hj; exact hab) (h.1 b rfl), h.2⟩

/-- Without a bound the addresses rise too. -/
theorem Memory.rising_none {m : Memory α} {b : Nat} (h : Memory.rising (some b) m = true) :
    Memory.rising none m = true := by
  cases m with
  | nil => rfl
  | cons e m =>
    obtain ⟨k, v⟩ := e
    rw [Memory.rising_cons] at h ⊢
    exact ⟨fun j hj => (by cases hj), h.2⟩

/-- Below the bound nothing is listed. -/
theorem Memory.read_below {rest : α} {m : Memory α} {b k : Nat} (h : Memory.rising (some b) m = true) (hk : k ≤ b) :
    Memory.read rest m k = rest := by
  induction m generalizing b with
  | nil => rfl
  | cons e m ih =>
    obtain ⟨a, v⟩ := e
    rw [Memory.rising_cons] at h
    have hba := h.1 b rfl
    have hne : k ≠ a := by omega
    simp only [Memory.read, if_neg hne]
    exact ih h.2 (by omega)

/-- A write keeps a bound below it. -/
theorem Memory.rising_write [DecidableEq α] {rest : α} {m : Memory α} {b : Option Nat} {k : Nat} {v : α}
    (h : Memory.rising b m = true) (hb : ∀ j, b = some j → j < k) :
    Memory.rising b (Memory.write rest m k v) = true := by
  induction m generalizing b with
  | nil =>
    simp only [Memory.write]
    split
    · exact h
    · rw [Memory.rising_cons]; exact ⟨hb, rfl⟩
  | cons e m ih =>
    obtain ⟨a, w⟩ := e
    have h' := h
    rw [Memory.rising_cons] at h'
    simp only [Memory.write]
    split
    · split
      · exact h
      · rw [Memory.rising_cons, Memory.rising_cons]
        exact ⟨hb, fun j hj => by cases hj; assumption, h'.2⟩
    · split
      · rename_i hka; subst hka
        split
        · cases b with
          | none => exact Memory.rising_none h'.2
          | some j => exact Memory.rising_mono h'.2 (Nat.le_of_lt (h'.1 j rfl))
        · rw [Memory.rising_cons]; exact ⟨h'.1, h'.2⟩
      · rw [Memory.rising_cons]
        exact ⟨h'.1, ih h'.2 (fun j hj => by cases hj; omega)⟩

/-- A write lists nothing but what was listed and the written value, which is not the rest value. -/
theorem Memory.mem_write [DecidableEq α] {rest : α} {m : Memory α} {k : Nat} {v : α} {e : Nat × α}
    (h : e ∈ Memory.write rest m k v) : e ∈ m ∨ (e = (k, v) ∧ v ≠ rest) := by
  induction m with
  | nil =>
    simp only [Memory.write] at h
    split at h
    · cases h
    · rename_i hv; exact .inr ⟨by simpa using h, hv⟩
  | cons f m ih =>
    obtain ⟨a, w⟩ := f
    simp only [Memory.write] at h
    split at h
    · split at h
      · exact .inl h
      · rename_i hv
        rcases List.mem_cons.mp h with rfl | h
        · exact .inr ⟨rfl, hv⟩
        · exact .inl h
    · split at h
      · split at h
        · exact .inl (List.mem_cons_of_mem _ h)
        · rename_i hv
          rcases List.mem_cons.mp h with rfl | h
          · exact .inr ⟨rfl, hv⟩
          · exact .inl (List.mem_cons_of_mem _ h)
      · rcases List.mem_cons.mp h with rfl | h
        · exact .inl (List.mem_cons_self ..)
        · rcases ih h with h | h
          · exact .inl (List.mem_cons_of_mem _ h)
          · exact .inr h

/-- A write keeps the canonical form. -/
theorem Memory.wf_write [DecidableEq α] {rest : α} {m : Memory α} (k : Nat) (v : α) (h : Memory.wf rest m = true) :
    Memory.wf rest (Memory.write rest m k v) = true := by
  simp only [Memory.wf, Bool.and_eq_true, List.all_eq_true, decide_eq_true_eq] at h ⊢
  refine ⟨Memory.rising_write h.1 (fun j hj => by cases hj), fun e he => ?_⟩
  rcases Memory.mem_write he with he | ⟨rfl, hv⟩
  · exact h.2 e he
  · exact hv

/-- A read after a write gives the value written there, and what was there elsewhere. -/
theorem Memory.read_write_rising [DecidableEq α] {rest : α} {m : Memory α} {b : Option Nat} (k : Nat) (v : α) (j : Nat)
    (h : Memory.rising b m = true) :
    Memory.read rest (Memory.write rest m k v) j = if j = k then v else Memory.read rest m j := by
  induction m generalizing b with
  | nil =>
    simp only [Memory.write]
    split
    · rename_i hv; subst hv; simp [Memory.read]
    · simp [Memory.read]
  | cons e m ih =>
    obtain ⟨a, w⟩ := e
    rw [Memory.rising_cons] at h
    simp only [Memory.write]
    split
    · rename_i hka
      split
      · rename_i hv
        by_cases hj : j = k
        · subst hj
          simp only [Memory.read, if_true]
          rw [if_neg (by omega), hv]
          exact Memory.read_below h.2 (Nat.le_of_lt hka)
        · simp [hj]
      · by_cases hj : j = k <;> simp [Memory.read, hj]
    · split
      · rename_i _ hka; subst hka
        split
        · rename_i hv
          by_cases hj : j = k
          · subst hj; simp only [if_true]; rw [hv]; exact Memory.read_below h.2 (Nat.le_refl _)
          · simp [Memory.read, hj]
        · by_cases hj : j = k <;> simp [Memory.read, hj]
      · rename_i hlt hne
        by_cases hja : j = a
        · subst hja; simp [Memory.read, Ne.symm hne]
        · simp only [Memory.read, if_neg hja]; exact ih h.2

/-- A read after a write, in a memory in canonical form. -/
theorem Memory.read_write [DecidableEq α] {rest : α} {m : Memory α} (h : Memory.wf rest m = true) (k : Nat) (v : α)
    (j : Nat) : Memory.read rest (Memory.write rest m k v) j = if j = k then v else Memory.read rest m j := by
  simp only [Memory.wf, Bool.and_eq_true] at h
  exact Memory.read_write_rising k v j h.1

/-- A fold of steps that each keep the canonical form keeps it. -/
theorem Memory.wf_foldl {β : Type} [DecidableEq α] {rest : α} (f : Memory α → β → Memory α)
    (hf : ∀ m x, Memory.wf rest m = true → Memory.wf rest (f m x) = true) (l : List β) (m : Memory α)
    (h : Memory.wf rest m = true) : Memory.wf rest (l.foldl f m) = true := by
  induction l generalizing m with
  | nil => exact h
  | cons x l ih => exact ih _ (hf m x h)

/-- The writes of a block keep the canonical form. -/
theorem blockWrites_wf {rest : Sample} (stride x0 y0 : Nat) (f : Nat → Sample) (m : Memory Sample)
    (h : Memory.wf rest m = true) : Memory.wf rest (blockWrites rest stride x0 y0 f m) = true :=
  Memory.wf_foldl _ (fun _ _ hm => Memory.wf_write _ _ hm) _ _ h

/-- The writes of READ_RGB keep the canonical form. -/
theorem rgbWrites_wf (s : State) (offset stride : Nat) (m : Memory (Option Pixel)) (h : Memory.wf none m = true) :
    Memory.wf none (rgbWrites s offset stride m) = true :=
  Memory.wf_foldl _ (fun _ _ hm => Memory.wf_foldl _ (fun _ _ hm => Memory.wf_write _ _ hm) _ _ hm) _ _ h

/-- The writes of READ_YCBCR420 keep the canonical form. -/
theorem writeFrom_wf (l : List Sample) (a : Nat) (m : Memory (Option Sample)) (h : Memory.wf none m = true) :
    Memory.wf none (writeFrom l a m) = true := by
  induction l generalizing a m with
  | nil => exact h
  | cons v l ih => exact ih _ _ (Memory.wf_write _ _ h)

/-- A read after a fold of writes at the listed elements' addresses, when no two elements share one: the value of the
element whose address it is, else what was there. -/
theorem Memory.read_foldl_write {β : Type} [DecidableEq α] {rest : α} (addr : β → Nat) (val : β → α) (l : List β)
    (m : Memory α) (j : Nat) (h : Memory.wf rest m = true)
    (inj : l.Pairwise (fun x y => addr x ≠ addr y)) :
    (∀ x ∈ l, addr x = j →
      Memory.read rest (l.foldl (fun m x => Memory.write rest m (addr x) (val x)) m) j = val x) ∧
    ((∀ x ∈ l, addr x ≠ j) →
      Memory.read rest (l.foldl (fun m x => Memory.write rest m (addr x) (val x)) m) j = Memory.read rest m j) := by
  induction l generalizing m with
  | nil => simp
  | cons y l ih =>
    rw [List.pairwise_cons] at inj
    have ih := ih (Memory.write rest m (addr y) (val y)) (Memory.wf_write _ _ h) inj.2
    simp only [List.foldl_cons]
    constructor
    · intro x hx hj
      rcases List.mem_cons.mp hx with rfl | hx
      · rw [ih.2 (fun z hz => by rw [← hj]; exact Ne.symm (inj.1 z hz)), Memory.read_write h, if_pos hj.symm]
      · exact ih.1 x hx hj
    · intro hn
      rw [ih.2 (fun z hz => hn z (List.mem_cons_of_mem _ hz)), Memory.read_write h,
        if_neg (fun hc => hn y (List.mem_cons_self ..) hc.symm)]

/-- What READ_YCBCR420's writes leave: the samples from the first element on, and what was there elsewhere. -/
theorem read_writeFrom (l : List Sample) (a : Nat) (m : Memory (Option Sample)) (j : Nat)
    (h : Memory.wf none m = true) :
    Memory.read none (writeFrom l a m) j =
      if a ≤ j ∧ j < a + l.length then l[j - a]? else Memory.read none m j := by
  induction l generalizing a m with
  | nil => simp only [writeFrom, List.length_nil]; rw [if_neg (by omega)]
  | cons v l ih =>
    simp only [writeFrom, List.length_cons]
    rw [ih _ _ (Memory.wf_write _ _ h), Memory.read_write h]
    by_cases hja : j = a
    · subst hja
      rw [if_neg (by omega), if_pos rfl, if_pos (by omega)]; simp
    · rw [if_neg hja]
      by_cases hj : a ≤ j ∧ j < a + (l.length + 1)
      · rw [if_pos hj, if_pos (by omega), show j - a = (j - (a + 1)) + 1 by omega]; simp
      · rw [if_neg hj, if_neg (by omega)]

end Sys2Proof.Machine
end

