-- ==== Sys2Proof/Laws/Ops.lean ====
section
/-! SUPPORT. One lemma for each shared operation that says what it can do, for the proofs to cite instead of unfolding it. -/

namespace Sys2Proof.Machine

/-! ## The bit reader -/

/-- `Take` consumes its bits when they are there, and nothing else changes (20_memory.md R111). -/
theorem take_eq_some {n : Nat} {s t : State} :
    take n s = some t ↔ s.bitPos + n ≤ s.streamBits ∧ t = { s with bitPos := s.bitPos + n } := by
  unfold take
  split
  · simp; omega
  · rename_i h
    simp only [Option.some.injEq]
    exact ⟨fun e => ⟨by omega, e.symm⟩, fun e => e.2.symm⟩

/-- `Take` answers none exactly when the bits are not there. -/
theorem take_eq_none {n : Nat} {s : State} : take n s = none ↔ s.streamBits < s.bitPos + n := by
  unfold take
  split
  · simp; omega
  · simp; omega

/-- `Peek` shows at most the bits of the stream. -/
theorem peek_length (s : State) (body n : Nat) : (peek s body n).length = min n (s.streamBits - s.bitPos) := by
  simp [peek]

/-- `Peek` reads only the input buffer, the format, the parameters and the position. -/
theorem peek_congr {s t : State} (body n : Nat) (hin : t.inBuf = s.inBuf) (hf : t.fmt = s.fmt)
    (hp : t.params = s.params) (hb : t.bitPos = s.bitPos) (hs : t.streamBits = s.streamBits) :
    peek t body n = peek s body n := by
  simp [peek, streamBit, unitAt, hin, hf, hp, hb, hs]

/-! ## Where a codeword is read -/

/-- What `context` says when it answers: an operation reads a codeword of the frame. -/
theorem context_reading {s : State} {c : Context} (h : context s = .ok c) : s.Reading := by
  unfold context at h
  split at h
  · cases h
  · rename_i h1
    split at h
    · cases h
    · rename_i h2
      simp only [not_or, Decidable.not_not] at h1 h2
      exact ⟨h1.1, h1.2.1, h1.2.2, h2.1, h2.2⟩

/-- A later code of a block of the mainline table. -/
theorem State.ReadingAc.context_eq {s : State} (h : s.ReadingAc) : context s = .ok .ac := by
  simp [context, h.running, h.emitted, h.active, h.format, h.body, h.later, h.table]

/-- The first code of a block. -/
theorem State.ReadingDc.context_eq {s : State} {mode : DcMode} {q : BitVec 6} (h : s.ReadingDc mode q) :
    context s = .ok (match mode with
      | .shared => .dcShared
      | .diff => if s.trk.role.isLuma then .dcLuma else .dcChroma) := by
  cases mode <;> simp [context, h.running, h.emitted, h.active, h.format, h.body, h.first, h.scheme]

/-- A codeword where it is expected. -/
theorem expecting_eq {allowed : List Context} {s : State} {c : Context} {k : Result} (h : context s = .ok c)
    (hc : c ∈ allowed) : expecting allowed s k = k := by
  simp [expecting, h, hc]

/-- A codeword completes only where it is expected. -/
theorem expecting_eq_next {allowed : List Context} {s t : State} {k : Result} (h : expecting allowed s k = .next t) :
    (∃ c ∈ allowed, context s = .ok c) ∧ k = .next t := by
  unfold expecting at h
  split at h
  · cases h
  · rename_i c hc
    split at h
    · exact ⟨⟨c, ‹_›, hc⟩, h⟩
    · cases h

/-! ## The planes -/

/-- A state with other planes. -/
def State.withPlanes (s : State) (y cb cr : Memory Sample) : State :=
  { s with planeY := y, planeCb := cb, planeCr := cr }

/-- A block write changes nothing but the planes. -/
theorem writeBlock_withPlanes (i : Nat) (r : Role) (f : Nat → Sample) (s : State) :
    ∃ y cb cr, writeBlock i r f s = s.withPlanes y cb cr := by
  cases r <;> exact ⟨_, _, _, rfl⟩

/-- A fold of operations that change nothing but the planes changes nothing but the planes. -/
theorem foldl_withPlanes {β : Type} (f : State → β → State)
    (hf : ∀ s x, ∃ y cb cr, f s x = s.withPlanes y cb cr) (l : List β) (s : State) :
    ∃ y cb cr, l.foldl f s = s.withPlanes y cb cr := by
  induction l generalizing s with
  | nil => exact ⟨_, _, _, rfl⟩
  | cons x l ih =>
    obtain ⟨y, cb, cr, h⟩ := hf s x
    obtain ⟨y', cb', cr', h'⟩ := ih (f s x)
    exact ⟨y', cb', cr', by rw [List.foldl_cons, h', h]; rfl⟩

/-- The zero-fill changes nothing but the planes (45_reconstruction.md R573). -/
theorem zeroFillFrom_withPlanes (i : Nat) (r : Role) (s : State) :
    ∃ y cb cr, zeroFillFrom i r s = s.withPlanes y cb cr :=
  foldl_withPlanes _ (fun _ _ => writeBlock_withPlanes _ _ _ _) _ s

/-! ## Errors -/

/-- The cause of a frame error; none for END_OF_STREAM. -/
def FrameError.cause? : FrameError → Option Cause
  | .endOfStream _ => none
  | .readCorruption c _ => some c

/-- The context of a frame error. -/
def FrameError.ctx : FrameError → Ctx
  | .endOfStream ctx => ctx
  | .readCorruption _ ctx => ctx

/-- `end_frame()` (47_host_interface.md R649). -/
theorem endFrame_eq (s : State) :
    endFrame s = { s with status := { s.status with
      warn := { s.status.warn with degenerateCodes := s.status.warn.degenerateCodes || decide (0 < s.degenCount) }
      degenCount := s.degenCount } } := by
  unfold endFrame
  by_cases h : 0 < s.degenCount
  · simp [h, warnDegenerateCodes]
  · simp [h]

/-- `fail(e)` ends the running operation with the error (47_host_interface.md R649, 60_exceptions.md R712). -/
theorem fail_frameFails (e : FrameError) (s : State) : FrameFails s (fail e s) e.cause? e.ctx := by
  cases hr : s.running with
  | decodeFrame =>
    obtain ⟨y, cb, cr, h⟩ := zeroFillFrom_withPlanes s.trk.mbIndex s.trk.role s
    refine ⟨?_, fun h => by simp [hr] at h⟩
    cases e <;> simp [fail, hr, h, endFrame_eq, recordError, finish, State.withPlanes, FrameError.cause?,
      FrameError.ctx, FrameError.reply]
  | readCode =>
    cases e <;> refine ⟨?_, fun _ => ?_⟩ <;> simp [fail, hr, endFrame_eq, recordError, finish, FrameError.cause?,
      FrameError.ctx, FrameError.reply]
  | idle =>
    cases e <;> refine ⟨?_, fun _ => ?_⟩ <;> simp [fail, hr, endFrame_eq, recordError, finish, FrameError.cause?,
      FrameError.ctx, FrameError.reply]

/-- What `raise EndOfStream` leaves (60_exceptions.md R700). -/
theorem raiseEndOfStream_frameFails (s : State) :
    FrameFails s (raiseEndOfStream s) none (s.errorCtx s.bitPos none) := fail_frameFails _ s

/-- What `raise ReadCorruption` leaves (60_exceptions.md R701). -/
theorem raiseCorruption_frameFails (cause : Cause) (value : CtxValue) (start : Nat) (s : State) :
    FrameFails s (raiseCorruption cause value start s) (some cause) (s.errorCtx start (some value)) :=
  fail_frameFails _ s

/-! ## Emitting a code -/

/-- A code that does not end its block (40_mdec_code.md R213). -/
theorem emit_code {start : Nat} {c : Code} {s : State} (h : isTerminal s.trk.firstOfBlock c = false) :
    emit start c s = { s with
      emitted := some ⟨c, s.trk.mbIndex, s.trk.role, s.trk.firstOfBlock, s.trk.codesInBlock, start⟩
      trk := { s.trk with
        codesInBlock := s.trk.codesInBlock + 1
        totalCodes := s.trk.totalCodes + 1
        firstOfBlock := false } } := by
  simp [emit, h, Tracker.advanceCode]

/-- The end-of-block code (40_mdec_code.md R214). -/
theorem emit_eob {start : Nat} {c : Code} {s : State} (h : isTerminal s.trk.firstOfBlock c = true) :
    emit start c s = { s with
      emitted := some ⟨c, s.trk.mbIndex, s.trk.role, s.trk.firstOfBlock, s.trk.codesInBlock, start⟩
      trk := s.trk.advanceEob
      dstate := if s.trk.advanceEob.mbIndex = s.cfg.mbCount then .done else s.dstate } := by
  simp [emit, h]

/-- The first code of a block is never terminal (40_mdec_code.md R212). -/
@[simp] theorem isTerminal_first (c : Code) : isTerminal true c = false := rfl

/-- A later code is terminal exactly when it is the end-of-block code. -/
@[simp] theorem isTerminal_later (c : Code) : isTerminal false c = c.isEob := rfl

/-- A code whose run the run check lets pass is not the end-of-block code (43_entropy_ac.md R354). -/
theorem isEob_eq_false {r : BitVec 6} {l : BitVec 10} (h : r.toNat < 63) : Code.isEob ⟨r, l⟩ = false := by
  have : r ≠ 63#6 := fun e => by subst e; exact absurd h (by decide)
  simp [Code.isEob, this]

/-! ## The codewords -/

/-- What a codeword with a run does where it is expected, up to its run check (43_entropy_ac.md R353). -/
theorem runChecked_eq {allowed : List Context} {c : Context} {len : Nat} {run : BitVec 6} {k : State → Result}
    {s : State} (h : context s = .ok c) (hc : c ∈ allowed) :
    runChecked allowed len run k s =
      if s.streamBits < s.bitPos + len then .next (raiseEndOfStream s)
      else if 63 < s.vpos + run.toNat + 1 then
        .next (raiseCorruption .runOverflow (.number (s.vpos + run.toNat + 1 : Nat)) s.bitPos
          { s with bitPos := s.bitPos + len })
      else k { s with bitPos := s.bitPos + len, vpos := s.vpos + run.toNat + 1 } := by
  unfold runChecked
  rw [expecting_eq h hc]
  by_cases hb : s.streamBits < s.bitPos + len
  · rw [take_eq_none.mpr hb, if_pos hb]
  · rw [take_eq_some.mpr ⟨by omega, rfl⟩, if_neg hb]

/-- What an AC codeword does where it is expected (43_entropy_ac.md R353, R362, R366). -/
theorem acCodeword_eq {allowed : List Context} {c : Context} {len : Nat} {run : BitVec 6} {level : BitVec 10}
    {escape : Bool} {s : State} (h : context s = .ok c) (hc : c ∈ allowed) :
    acCodeword allowed len run level escape s =
      if s.streamBits < s.bitPos + len then .next (raiseEndOfStream s)
      else if 63 < s.vpos + run.toNat + 1 then
        .next (raiseCorruption .runOverflow (.number (s.vpos + run.toNat + 1 : Nat)) s.bitPos
          { s with bitPos := s.bitPos + len })
      else if escape = true ∧ level = 0#10 ∧ zeroTolerant s = false then
        .next (raiseCorruption .zeroEscape (.number run.toNat) s.bitPos
          { s with bitPos := s.bitPos + len, vpos := s.vpos + run.toNat + 1 })
      else .next (emit s.bitPos ⟨run, level⟩ { s with bitPos := s.bitPos + len, vpos := s.vpos + run.toNat + 1 }) := by
  simp [acCodeword, runChecked_eq h hc, raiseZeroEscape, and_assoc]

/-- What a DC codeword of the differential scheme does where it is expected (42_entropy_dc.md R303, R304). -/
theorem dcDiffCodeword_eq {allowed : List Context} {c : Context} {len : Nat} {delta : Int} {s : State}
    {q : BitVec 6} (h : context s = .ok c) (hc : c ∈ allowed) (hq : blockQscale s = some q) :
    dcDiffCodeword allowed len delta s =
      if s.streamBits < s.bitPos + len then .next (raiseEndOfStream s)
      else if s.prevDc.get s.trk.role + 4 * delta < -512 ∨ 511 < s.prevDc.get s.trk.role + 4 * delta then
        .next (raiseCorruption .dcRange (.number (s.prevDc.get s.trk.role + 4 * delta)) s.bitPos
          { s with bitPos := s.bitPos + len })
      else .next (emit s.bitPos ⟨q, BitVec.ofInt 10 (s.prevDc.get s.trk.role + 4 * delta)⟩
        { s with
          bitPos := s.bitPos + len
          prevDc := s.prevDc.set (s.prevDc.get s.trk.role + 4 * delta) s.trk.role
          vpos := 0 }) := by
  unfold dcDiffCodeword
  rw [expecting_eq h hc]
  by_cases hb : s.streamBits < s.bitPos + len
  · rw [take_eq_none.mpr hb, if_pos hb]
  · rw [take_eq_some.mpr ⟨by omega, rfl⟩, if_neg hb]
    simp only [gt_iff_lt, hq]

/-- What a DC codeword that gives the DC itself does where it is expected (42_entropy_dc.md R300, R307). -/
theorem dcFieldCodeword_eq {len : Nat} {d : BitVec 10} {s : State} {q : BitVec 6} (h : context s = .ok .dcShared)
    (hq : blockQscale s = some q) :
    dcFieldCodeword len d s =
      if s.streamBits < s.bitPos + len then .next (raiseEndOfStream s)
      else .next (emit s.bitPos ⟨q, d⟩ { s with bitPos := s.bitPos + len, vpos := 0 }) := by
  unfold dcFieldCodeword
  rw [expecting_eq h (by simp)]
  by_cases hb : s.streamBits < s.bitPos + len
  · rw [take_eq_none.mpr hb, if_pos hb]
  · rw [take_eq_some.mpr ⟨by omega, rfl⟩, if_neg hb]
    simp only [hq]

/-- What the shared DC codeword does where it is expected (42_entropy_dc.md R300). -/
theorem dcSharedCodeword_eq {d : BitVec 10} {s : State} {q : BitVec 6} (h : context s = .ok .dcShared)
    (hq : blockQscale s = some q) :
    dcSharedCodeword d s =
      if s.streamBits < s.bitPos + 10 then .next (raiseEndOfStream s)
      else .next (emit s.bitPos ⟨q, d⟩ { s with bitPos := s.bitPos + 10, vpos := 0 }) :=
  dcFieldCodeword_eq h hq

/-- What a title's ZERO_ESCAPE does where it is expected (43_entropy_ac.md R365, R353). -/
theorem zeroEscapeCodeword_eq {len : Nat} {run : BitVec 6} {s : State} (h : context s = .ok .acTitle) :
    zeroEscapeCodeword len run s =
      if s.streamBits < s.bitPos + len then .next (raiseEndOfStream s)
      else if 63 < s.vpos + run.toNat + 1 then
        .next (raiseCorruption .runOverflow (.number (s.vpos + run.toNat + 1 : Nat)) s.bitPos
          { s with bitPos := s.bitPos + len })
      else .next (raiseCorruption .zeroEscape (.number run.toNat) s.bitPos
        { s with bitPos := s.bitPos + len, vpos := s.vpos + run.toNat + 1 }) :=
  runChecked_eq h (by simp)

/-- What the end-of-block codeword does where it is expected (43_entropy_ac.md R360). -/
theorem eobCodeword_eq {c : Context} {s : State} (h : context s = .ok c) (hc : c = .ac ∨ c = .acTitle) :
    eobCodeword s =
      if s.streamBits < s.bitPos + 2 then .next (raiseEndOfStream s)
      else .next (emit s.bitPos eobCode { s with bitPos := s.bitPos + 2 }) := by
  unfold eobCodeword
  rw [expecting_eq h (by rcases hc with rfl | rfl <;> simp)]
  by_cases hb : s.streamBits < s.bitPos + 2
  · rw [take_eq_none.mpr hb, if_pos hb]
  · rw [take_eq_some.mpr ⟨by omega, rfl⟩, if_neg hb]

/-! ## The filter -/

/-- The first code and the end of block pass and drop a run held back (44_filter.md R503). -/
theorem filterStep_boundary {first : Bool} {c : Code} {s : State} (h : (first || c.isEob) = true) :
    filterStep first c s = (some c.passed, { s with pendRun := none }) := by
  simp [filterStep, h]

/-- A degenerate code is counted, and absorbed or passed (44_filter.md R501 to R504). -/
theorem filterStep_degenerate {c : Code} {s : State} (he : c.isEob = false) (hz : c.bottom10 = 0#10) :
    filterStep false c s =
      if s.cfg.filterMerge then
        (none, { countDegenerate s with pendRun := some (pendAfter s.pendRun c.top6.toNat) })
      else (some c.passed, countDegenerate s) := by
  simp [filterStep, he, hz]

/-- A later code that is not degenerate takes a run held back with it (44_filter.md R503). -/
theorem filterStep_later {c : Code} {s : State} (he : c.isEob = false) (hz : c.bottom10 ≠ 0#10) :
    filterStep false c s =
      if s.cfg.filterMerge then
        (some ⟨s.pendRun.getD 0 + c.top6.toNat, c.bottom10⟩, { s with pendRun := none })
      else (some c.passed, s) := by
  cases hm : s.cfg.filterMerge <;> cases hp : s.pendRun <;> simp [filterStep, he, hz, hm, hp, Code.passed]
  · cases s; simp_all

end Sys2Proof.Machine
end

