-- ==== Sys2Proof/Laws/Codewords.lean ====
section
/-! SUPPORT. What `exec` is for the codewords of the two tables, read off the tables of Sys2Proof/Safety.lean in one lemma
each. -/

namespace Sys2Proof.Machine

/-- The level of a VLC codeword is the one its operands assemble (30_encoding.md R161). -/
theorem vlcLevel_eq (m : Nat) (neg : Bool) :
    vlcLevel m neg = BitVec.ofInt 10 (if neg then -(m : Int) else m) := by
  cases neg <;> simp [vlcLevel, BitVec.ofInt_neg, BitVec.ofInt_natCast]

/-- A VLC instruction is the AC codeword of its table row (43_entropy_ac.md R366). -/
theorem exec_vlc {i : Instr} {w : VlcWord} (h : vlcWord? i = some w) (s : State) :
    exec i s = acCodeword [.ac] (w.codeBits + 1) (BitVec.ofNat 6 w.run) w.level false s := by
  cases i <;> cases h <;> simp only [VlcWord.level, ← vlcLevel_eq] <;> rfl

/-- The rows of the VLC table: no run beyond 31, no magnitude of 0 (43_entropy_ac.md R366). -/
theorem vlcWord_bounds {i : Instr} {w : VlcWord} (h : vlcWord? i = some w) :
    w.run ≤ 31 ∧ 1 ≤ w.magnitude ∧ w.magnitude ≤ 40 ∧ 2 ≤ w.codeBits ∧ w.codeBits ≤ 16 := by
  cases i <;> cases h <;> simp

/-- The delta of a differential DC codeword is the one its operands assemble (42_entropy_dc.md R306). -/
theorem dcDelta_eq (size v : Nat) :
    dcDelta size v = if size = 0 then 0 else if v < 2 ^ (size - 1) then (v : Int) - (2 ^ size - 1) else v := by
  unfold dcDelta
  split
  · rfl
  · have : ((2 ^ size - 1 : Nat) : Int) = (2 : Int) ^ size - 1 := by
      rw [Int.natCast_sub (Nat.one_le_two_pow (n := size)), Int.natCast_pow]; rfl
    split <;> split <;> omega

/-- A differential DC instruction is the DC codeword of its table row (42_entropy_dc.md R303). -/
theorem exec_dcDiff {i : Instr} {w : DcWord} (h : dcWord? i = some w) (s : State) :
    exec i s = dcDiffCodeword [w.context] w.bits w.delta s := by
  cases i <;> cases h <;> simp only [DcWord.delta, ← dcDelta_eq] <;> rfl

/-- An AC instruction of the mainline is the AC codeword of its row (43_entropy_ac.md R362, R366). -/
theorem exec_ac {i : Instr} {w : AcWord} (h : acWord? i = some w) (s : State) :
    exec i s = acCodeword [.ac] w.bits w.run w.level w.escape s := by
  unfold acWord? at h
  split at h
  · cases h; rfl
  · simp only [Option.map_eq_some_iff] at h
    obtain ⟨v, hv, rfl⟩ := h
    exact exec_vlc hv s

end Sys2Proof.Machine
end

