-- ==== Sys2Proof/Laws/PerInstr.lean ====
section
/-! SUPPORT. A statement made once for each instruction: a codeword of the bitstream has at least 2 and at most 22 bits
(30_encoding.md R170: the longest is the escape), so that `Peek(WINDOW)` always shows a whole one
(43_entropy_ac.md R351). -/

namespace Sys2Proof.Laws.CodewordLength

/-- The bits of a codeword instruction (30_encoding.md R170). -/
def Statement (i : Instr) : Prop := ∀ code, encode i = .codeword code → 2 ≤ code.length ∧ code.length ≤ 22

/-- A code of a length in the bounds. -/
theorem of_length {i : Instr} {c : Bits} (h : encode i = .codeword c)
    (hc : (Nat.ble 2 c.length && Nat.ble c.length 22) = true) : Statement i := by
  intro code hcode
  rw [h] at hcode
  cases hcode
  simp only [Bool.and_eq_true] at hc
  exact ⟨Nat.le_of_ble_eq_true hc.1, Nat.le_of_ble_eq_true hc.2⟩

theorem mdecEob : Statement .mdecEob := fun _ h => nomatch h
theorem mdecDc (q : BitVec 6) (d : BitVec 10) : Statement (.mdecDc q d) := fun _ h => nomatch h
theorem mdecAc (r : BitVec 6) (l : BitVec 10) : Statement (.mdecAc r l) := fun _ h => nomatch h
theorem dcShared (d : BitVec 10) : Statement (.dcShared d) := of_length rfl rfl
theorem dcDiffYS0 : Statement .dcDiffYS0 := of_length rfl rfl
theorem dcDiffYS1 (v : BitVec 1) : Statement (.dcDiffYS1 v) := of_length rfl rfl
theorem dcDiffYS2 (v : BitVec 2) : Statement (.dcDiffYS2 v) := of_length rfl rfl
theorem dcDiffYS3 (v : BitVec 3) : Statement (.dcDiffYS3 v) := of_length rfl rfl
theorem dcDiffYS4 (v : BitVec 4) : Statement (.dcDiffYS4 v) := of_length rfl rfl
theorem dcDiffYS5 (v : BitVec 5) : Statement (.dcDiffYS5 v) := of_length rfl rfl
theorem dcDiffYS6 (v : BitVec 6) : Statement (.dcDiffYS6 v) := of_length rfl rfl
theorem dcDiffYS7 (v : BitVec 7) : Statement (.dcDiffYS7 v) := of_length rfl rfl
theorem dcDiffYS8 (v : BitVec 8) : Statement (.dcDiffYS8 v) := of_length rfl rfl
theorem dcDiffCS0 : Statement .dcDiffCS0 := of_length rfl rfl
theorem dcDiffCS1 (v : BitVec 1) : Statement (.dcDiffCS1 v) := of_length rfl rfl
theorem dcDiffCS2 (v : BitVec 2) : Statement (.dcDiffCS2 v) := of_length rfl rfl
theorem dcDiffCS3 (v : BitVec 3) : Statement (.dcDiffCS3 v) := of_length rfl rfl
theorem dcDiffCS4 (v : BitVec 4) : Statement (.dcDiffCS4 v) := of_length rfl rfl
theorem dcDiffCS5 (v : BitVec 5) : Statement (.dcDiffCS5 v) := of_length rfl rfl
theorem dcDiffCS6 (v : BitVec 6) : Statement (.dcDiffCS6 v) := of_length rfl rfl
theorem dcDiffCS7 (v : BitVec 7) : Statement (.dcDiffCS7 v) := of_length rfl rfl
theorem dcDiffCS8 (v : BitVec 8) : Statement (.dcDiffCS8 v) := of_length rfl rfl
theorem acEob : Statement .acEob := of_length rfl rfl
theorem acEscape (r : BitVec 6) (l : BitVec 10) : Statement (.acEscape r l) := of_length rfl rfl
theorem acR0M1 (neg : Bool) : Statement (.acR0M1 neg) := of_length rfl rfl
theorem acR1M1 (neg : Bool) : Statement (.acR1M1 neg) := of_length rfl rfl
theorem acR0M2 (neg : Bool) : Statement (.acR0M2 neg) := of_length rfl rfl
theorem acR2M1 (neg : Bool) : Statement (.acR2M1 neg) := of_length rfl rfl
theorem acR0M3 (neg : Bool) : Statement (.acR0M3 neg) := of_length rfl rfl
theorem acR3M1 (neg : Bool) : Statement (.acR3M1 neg) := of_length rfl rfl
theorem acR4M1 (neg : Bool) : Statement (.acR4M1 neg) := of_length rfl rfl
theorem acR1M2 (neg : Bool) : Statement (.acR1M2 neg) := of_length rfl rfl
theorem acR5M1 (neg : Bool) : Statement (.acR5M1 neg) := of_length rfl rfl
theorem acR6M1 (neg : Bool) : Statement (.acR6M1 neg) := of_length rfl rfl
theorem acR7M1 (neg : Bool) : Statement (.acR7M1 neg) := of_length rfl rfl
theorem acR0M4 (neg : Bool) : Statement (.acR0M4 neg) := of_length rfl rfl
theorem acR2M2 (neg : Bool) : Statement (.acR2M2 neg) := of_length rfl rfl
theorem acR8M1 (neg : Bool) : Statement (.acR8M1 neg) := of_length rfl rfl
theorem acR9M1 (neg : Bool) : Statement (.acR9M1 neg) := of_length rfl rfl
theorem acR0M5 (neg : Bool) : Statement (.acR0M5 neg) := of_length rfl rfl
theorem acR0M6 (neg : Bool) : Statement (.acR0M6 neg) := of_length rfl rfl
theorem acR1M3 (neg : Bool) : Statement (.acR1M3 neg) := of_length rfl rfl
theorem acR3M2 (neg : Bool) : Statement (.acR3M2 neg) := of_length rfl rfl
theorem acR10M1 (neg : Bool) : Statement (.acR10M1 neg) := of_length rfl rfl
theorem acR11M1 (neg : Bool) : Statement (.acR11M1 neg) := of_length rfl rfl
theorem acR12M1 (neg : Bool) : Statement (.acR12M1 neg) := of_length rfl rfl
theorem acR13M1 (neg : Bool) : Statement (.acR13M1 neg) := of_length rfl rfl
theorem acR0M7 (neg : Bool) : Statement (.acR0M7 neg) := of_length rfl rfl
theorem acR1M4 (neg : Bool) : Statement (.acR1M4 neg) := of_length rfl rfl
theorem acR2M3 (neg : Bool) : Statement (.acR2M3 neg) := of_length rfl rfl
theorem acR4M2 (neg : Bool) : Statement (.acR4M2 neg) := of_length rfl rfl
theorem acR5M2 (neg : Bool) : Statement (.acR5M2 neg) := of_length rfl rfl
theorem acR14M1 (neg : Bool) : Statement (.acR14M1 neg) := of_length rfl rfl
theorem acR15M1 (neg : Bool) : Statement (.acR15M1 neg) := of_length rfl rfl
theorem acR16M1 (neg : Bool) : Statement (.acR16M1 neg) := of_length rfl rfl
theorem acR0M8 (neg : Bool) : Statement (.acR0M8 neg) := of_length rfl rfl
theorem acR0M9 (neg : Bool) : Statement (.acR0M9 neg) := of_length rfl rfl
theorem acR0M10 (neg : Bool) : Statement (.acR0M10 neg) := of_length rfl rfl
theorem acR0M11 (neg : Bool) : Statement (.acR0M11 neg) := of_length rfl rfl
theorem acR1M5 (neg : Bool) : Statement (.acR1M5 neg) := of_length rfl rfl
theorem acR2M4 (neg : Bool) : Statement (.acR2M4 neg) := of_length rfl rfl
theorem acR3M3 (neg : Bool) : Statement (.acR3M3 neg) := of_length rfl rfl
theorem acR4M3 (neg : Bool) : Statement (.acR4M3 neg) := of_length rfl rfl
theorem acR6M2 (neg : Bool) : Statement (.acR6M2 neg) := of_length rfl rfl
theorem acR7M2 (neg : Bool) : Statement (.acR7M2 neg) := of_length rfl rfl
theorem acR8M2 (neg : Bool) : Statement (.acR8M2 neg) := of_length rfl rfl
theorem acR17M1 (neg : Bool) : Statement (.acR17M1 neg) := of_length rfl rfl
theorem acR18M1 (neg : Bool) : Statement (.acR18M1 neg) := of_length rfl rfl
theorem acR19M1 (neg : Bool) : Statement (.acR19M1 neg) := of_length rfl rfl
theorem acR20M1 (neg : Bool) : Statement (.acR20M1 neg) := of_length rfl rfl
theorem acR21M1 (neg : Bool) : Statement (.acR21M1 neg) := of_length rfl rfl
theorem acR0M12 (neg : Bool) : Statement (.acR0M12 neg) := of_length rfl rfl
theorem acR0M13 (neg : Bool) : Statement (.acR0M13 neg) := of_length rfl rfl
theorem acR0M14 (neg : Bool) : Statement (.acR0M14 neg) := of_length rfl rfl
theorem acR0M15 (neg : Bool) : Statement (.acR0M15 neg) := of_length rfl rfl
theorem acR1M6 (neg : Bool) : Statement (.acR1M6 neg) := of_length rfl rfl
theorem acR1M7 (neg : Bool) : Statement (.acR1M7 neg) := of_length rfl rfl
theorem acR2M5 (neg : Bool) : Statement (.acR2M5 neg) := of_length rfl rfl
theorem acR3M4 (neg : Bool) : Statement (.acR3M4 neg) := of_length rfl rfl
theorem acR5M3 (neg : Bool) : Statement (.acR5M3 neg) := of_length rfl rfl
theorem acR9M2 (neg : Bool) : Statement (.acR9M2 neg) := of_length rfl rfl
theorem acR10M2 (neg : Bool) : Statement (.acR10M2 neg) := of_length rfl rfl
theorem acR22M1 (neg : Bool) : Statement (.acR22M1 neg) := of_length rfl rfl
theorem acR23M1 (neg : Bool) : Statement (.acR23M1 neg) := of_length rfl rfl
theorem acR24M1 (neg : Bool) : Statement (.acR24M1 neg) := of_length rfl rfl
theorem acR25M1 (neg : Bool) : Statement (.acR25M1 neg) := of_length rfl rfl
theorem acR26M1 (neg : Bool) : Statement (.acR26M1 neg) := of_length rfl rfl
theorem acR0M16 (neg : Bool) : Statement (.acR0M16 neg) := of_length rfl rfl
theorem acR0M17 (neg : Bool) : Statement (.acR0M17 neg) := of_length rfl rfl
theorem acR0M18 (neg : Bool) : Statement (.acR0M18 neg) := of_length rfl rfl
theorem acR0M19 (neg : Bool) : Statement (.acR0M19 neg) := of_length rfl rfl
theorem acR0M20 (neg : Bool) : Statement (.acR0M20 neg) := of_length rfl rfl
theorem acR0M21 (neg : Bool) : Statement (.acR0M21 neg) := of_length rfl rfl
theorem acR0M22 (neg : Bool) : Statement (.acR0M22 neg) := of_length rfl rfl
theorem acR0M23 (neg : Bool) : Statement (.acR0M23 neg) := of_length rfl rfl
theorem acR0M24 (neg : Bool) : Statement (.acR0M24 neg) := of_length rfl rfl
theorem acR0M25 (neg : Bool) : Statement (.acR0M25 neg) := of_length rfl rfl
theorem acR0M26 (neg : Bool) : Statement (.acR0M26 neg) := of_length rfl rfl
theorem acR0M27 (neg : Bool) : Statement (.acR0M27 neg) := of_length rfl rfl
theorem acR0M28 (neg : Bool) : Statement (.acR0M28 neg) := of_length rfl rfl
theorem acR0M29 (neg : Bool) : Statement (.acR0M29 neg) := of_length rfl rfl
theorem acR0M30 (neg : Bool) : Statement (.acR0M30 neg) := of_length rfl rfl
theorem acR0M31 (neg : Bool) : Statement (.acR0M31 neg) := of_length rfl rfl
theorem acR0M32 (neg : Bool) : Statement (.acR0M32 neg) := of_length rfl rfl
theorem acR0M33 (neg : Bool) : Statement (.acR0M33 neg) := of_length rfl rfl
theorem acR0M34 (neg : Bool) : Statement (.acR0M34 neg) := of_length rfl rfl
theorem acR0M35 (neg : Bool) : Statement (.acR0M35 neg) := of_length rfl rfl
theorem acR0M36 (neg : Bool) : Statement (.acR0M36 neg) := of_length rfl rfl
theorem acR0M37 (neg : Bool) : Statement (.acR0M37 neg) := of_length rfl rfl
theorem acR0M38 (neg : Bool) : Statement (.acR0M38 neg) := of_length rfl rfl
theorem acR0M39 (neg : Bool) : Statement (.acR0M39 neg) := of_length rfl rfl
theorem acR0M40 (neg : Bool) : Statement (.acR0M40 neg) := of_length rfl rfl
theorem acR1M8 (neg : Bool) : Statement (.acR1M8 neg) := of_length rfl rfl
theorem acR1M9 (neg : Bool) : Statement (.acR1M9 neg) := of_length rfl rfl
theorem acR1M10 (neg : Bool) : Statement (.acR1M10 neg) := of_length rfl rfl
theorem acR1M11 (neg : Bool) : Statement (.acR1M11 neg) := of_length rfl rfl
theorem acR1M12 (neg : Bool) : Statement (.acR1M12 neg) := of_length rfl rfl
theorem acR1M13 (neg : Bool) : Statement (.acR1M13 neg) := of_length rfl rfl
theorem acR1M14 (neg : Bool) : Statement (.acR1M14 neg) := of_length rfl rfl
theorem acR1M15 (neg : Bool) : Statement (.acR1M15 neg) := of_length rfl rfl
theorem acR1M16 (neg : Bool) : Statement (.acR1M16 neg) := of_length rfl rfl
theorem acR1M17 (neg : Bool) : Statement (.acR1M17 neg) := of_length rfl rfl
theorem acR1M18 (neg : Bool) : Statement (.acR1M18 neg) := of_length rfl rfl
theorem acR6M3 (neg : Bool) : Statement (.acR6M3 neg) := of_length rfl rfl
theorem acR11M2 (neg : Bool) : Statement (.acR11M2 neg) := of_length rfl rfl
theorem acR12M2 (neg : Bool) : Statement (.acR12M2 neg) := of_length rfl rfl
theorem acR13M2 (neg : Bool) : Statement (.acR13M2 neg) := of_length rfl rfl
theorem acR14M2 (neg : Bool) : Statement (.acR14M2 neg) := of_length rfl rfl
theorem acR15M2 (neg : Bool) : Statement (.acR15M2 neg) := of_length rfl rfl
theorem acR16M2 (neg : Bool) : Statement (.acR16M2 neg) := of_length rfl rfl
theorem acR27M1 (neg : Bool) : Statement (.acR27M1 neg) := of_length rfl rfl
theorem acR28M1 (neg : Bool) : Statement (.acR28M1 neg) := of_length rfl rfl
theorem acR29M1 (neg : Bool) : Statement (.acR29M1 neg) := of_length rfl rfl
theorem acR30M1 (neg : Bool) : Statement (.acR30M1 neg) := of_length rfl rfl
theorem acR31M1 (neg : Bool) : Statement (.acR31M1 neg) := of_length rfl rfl
theorem configure (width : Int) (height : Int) (variant : Variant) (filterMerge : Bool) (upsampler : Upsampler) :
    Statement (.configure width height variant filterMerge upsampler) := fun _ h => nomatch h
theorem setQuant (table : List Int) : Statement (.setQuant table) := fun _ h => nomatch h
theorem loadFrame (bytes : List Byte) : Statement (.loadFrame bytes) := fun _ h => nomatch h
theorem readCode : Statement .readCode := fun _ h => nomatch h
theorem decodeFrame : Statement .decodeFrame := fun _ h => nomatch h
theorem readRgb (len : Nat) (offset : Nat) (stride : Nat) :
    Statement (.readRgb len offset stride) := fun _ h => nomatch h
theorem readYcbcr420 (len : Nat) (colorspace : Colorspace) :
    Statement (.readYcbcr420 len colorspace) := fun _ h => nomatch h
theorem queryStatus : Statement .queryStatus := fun _ h => nomatch h

end Sys2Proof.Laws.CodewordLength
end

