-- ==== Sys2Proof/Laws/State.lean ====
section
/-! SUPPORT. What each named update of the state leaves in each field, so that no proof unfolds an update. -/

namespace Sys2Proof.Machine

/-! ## `warnPartialUnit` -/

@[simp] theorem warnPartialUnit_params (s : State) : (warnPartialUnit s).params = s.params := rfl
@[simp] theorem warnPartialUnit_hostIn (s : State) : (warnPartialUnit s).hostIn = s.hostIn := rfl
@[simp] theorem warnPartialUnit_reply (s : State) : (warnPartialUnit s).reply = s.reply := rfl
@[simp] theorem warnPartialUnit_running (s : State) : (warnPartialUnit s).running = s.running := rfl
@[simp] theorem warnPartialUnit_emitted (s : State) : (warnPartialUnit s).emitted = s.emitted := rfl
@[simp] theorem warnPartialUnit_configured (s : State) : (warnPartialUnit s).configured = s.configured := rfl
@[simp] theorem warnPartialUnit_cfg (s : State) : (warnPartialUnit s).cfg = s.cfg := rfl
@[simp] theorem warnPartialUnit_qt (s : State) : (warnPartialUnit s).qt = s.qt := rfl
@[simp] theorem warnPartialUnit_qtActive (s : State) : (warnPartialUnit s).qtActive = s.qtActive := rfl
@[simp] theorem warnPartialUnit_inBuf (s : State) : (warnPartialUnit s).inBuf = s.inBuf := rfl
@[simp] theorem warnPartialUnit_fmt (s : State) : (warnPartialUnit s).fmt = s.fmt := rfl
@[simp] theorem warnPartialUnit_hdr (s : State) : (warnPartialUnit s).hdr = s.hdr := rfl
@[simp] theorem warnPartialUnit_bitPos (s : State) : (warnPartialUnit s).bitPos = s.bitPos := rfl
@[simp] theorem warnPartialUnit_streamBits (s : State) : (warnPartialUnit s).streamBits = s.streamBits := rfl
@[simp] theorem warnPartialUnit_dstate (s : State) : (warnPartialUnit s).dstate = s.dstate := rfl
@[simp] theorem warnPartialUnit_trk (s : State) : (warnPartialUnit s).trk = s.trk := rfl
@[simp] theorem warnPartialUnit_vpos (s : State) : (warnPartialUnit s).vpos = s.vpos := rfl
@[simp] theorem warnPartialUnit_prevDc (s : State) : (warnPartialUnit s).prevDc = s.prevDc := rfl
@[simp] theorem warnPartialUnit_degenCount (s : State) : (warnPartialUnit s).degenCount = s.degenCount := rfl
@[simp] theorem warnPartialUnit_pendRun (s : State) : (warnPartialUnit s).pendRun = s.pendRun := rfl
@[simp] theorem warnPartialUnit_blk (s : State) : (warnPartialUnit s).blk = s.blk := rfl
@[simp] theorem warnPartialUnit_nzCount (s : State) : (warnPartialUnit s).nzCount = s.nzCount := rfl
@[simp] theorem warnPartialUnit_lastNz (s : State) : (warnPartialUnit s).lastNz = s.lastNz := rfl
@[simp] theorem warnPartialUnit_blkQscale (s : State) : (warnPartialUnit s).blkQscale = s.blkQscale := rfl
@[simp] theorem warnPartialUnit_rpos (s : State) : (warnPartialUnit s).rpos = s.rpos := rfl
@[simp] theorem warnPartialUnit_planeY (s : State) : (warnPartialUnit s).planeY = s.planeY := rfl
@[simp] theorem warnPartialUnit_planeCb (s : State) : (warnPartialUnit s).planeCb = s.planeCb := rfl
@[simp] theorem warnPartialUnit_planeCr (s : State) : (warnPartialUnit s).planeCr = s.planeCr := rfl
@[simp] theorem warnPartialUnit_frameMode (s : State) : (warnPartialUnit s).frameMode = s.frameMode := rfl
@[simp] theorem warnPartialUnit_outRgb (s : State) : (warnPartialUnit s).outRgb = s.outRgb := rfl
@[simp] theorem warnPartialUnit_outYuv (s : State) : (warnPartialUnit s).outYuv = s.outYuv := rfl

/-! ## `warnDegenerateCodes` -/

@[simp] theorem warnDegenerateCodes_params (s : State) : (warnDegenerateCodes s).params = s.params := rfl
@[simp] theorem warnDegenerateCodes_hostIn (s : State) : (warnDegenerateCodes s).hostIn = s.hostIn := rfl
@[simp] theorem warnDegenerateCodes_reply (s : State) : (warnDegenerateCodes s).reply = s.reply := rfl
@[simp] theorem warnDegenerateCodes_running (s : State) : (warnDegenerateCodes s).running = s.running := rfl
@[simp] theorem warnDegenerateCodes_emitted (s : State) : (warnDegenerateCodes s).emitted = s.emitted := rfl
@[simp] theorem warnDegenerateCodes_configured (s : State) : (warnDegenerateCodes s).configured = s.configured := rfl
@[simp] theorem warnDegenerateCodes_cfg (s : State) : (warnDegenerateCodes s).cfg = s.cfg := rfl
@[simp] theorem warnDegenerateCodes_qt (s : State) : (warnDegenerateCodes s).qt = s.qt := rfl
@[simp] theorem warnDegenerateCodes_qtActive (s : State) : (warnDegenerateCodes s).qtActive = s.qtActive := rfl
@[simp] theorem warnDegenerateCodes_inBuf (s : State) : (warnDegenerateCodes s).inBuf = s.inBuf := rfl
@[simp] theorem warnDegenerateCodes_fmt (s : State) : (warnDegenerateCodes s).fmt = s.fmt := rfl
@[simp] theorem warnDegenerateCodes_hdr (s : State) : (warnDegenerateCodes s).hdr = s.hdr := rfl
@[simp] theorem warnDegenerateCodes_bitPos (s : State) : (warnDegenerateCodes s).bitPos = s.bitPos := rfl
@[simp] theorem warnDegenerateCodes_streamBits (s : State) : (warnDegenerateCodes s).streamBits = s.streamBits := rfl
@[simp] theorem warnDegenerateCodes_dstate (s : State) : (warnDegenerateCodes s).dstate = s.dstate := rfl
@[simp] theorem warnDegenerateCodes_trk (s : State) : (warnDegenerateCodes s).trk = s.trk := rfl
@[simp] theorem warnDegenerateCodes_vpos (s : State) : (warnDegenerateCodes s).vpos = s.vpos := rfl
@[simp] theorem warnDegenerateCodes_prevDc (s : State) : (warnDegenerateCodes s).prevDc = s.prevDc := rfl
@[simp] theorem warnDegenerateCodes_degenCount (s : State) : (warnDegenerateCodes s).degenCount = s.degenCount := rfl
@[simp] theorem warnDegenerateCodes_pendRun (s : State) : (warnDegenerateCodes s).pendRun = s.pendRun := rfl
@[simp] theorem warnDegenerateCodes_blk (s : State) : (warnDegenerateCodes s).blk = s.blk := rfl
@[simp] theorem warnDegenerateCodes_nzCount (s : State) : (warnDegenerateCodes s).nzCount = s.nzCount := rfl
@[simp] theorem warnDegenerateCodes_lastNz (s : State) : (warnDegenerateCodes s).lastNz = s.lastNz := rfl
@[simp] theorem warnDegenerateCodes_blkQscale (s : State) : (warnDegenerateCodes s).blkQscale = s.blkQscale := rfl
@[simp] theorem warnDegenerateCodes_rpos (s : State) : (warnDegenerateCodes s).rpos = s.rpos := rfl
@[simp] theorem warnDegenerateCodes_planeY (s : State) : (warnDegenerateCodes s).planeY = s.planeY := rfl
@[simp] theorem warnDegenerateCodes_planeCb (s : State) : (warnDegenerateCodes s).planeCb = s.planeCb := rfl
@[simp] theorem warnDegenerateCodes_planeCr (s : State) : (warnDegenerateCodes s).planeCr = s.planeCr := rfl
@[simp] theorem warnDegenerateCodes_frameMode (s : State) : (warnDegenerateCodes s).frameMode = s.frameMode := rfl
@[simp] theorem warnDegenerateCodes_outRgb (s : State) : (warnDegenerateCodes s).outRgb = s.outRgb := rfl
@[simp] theorem warnDegenerateCodes_outYuv (s : State) : (warnDegenerateCodes s).outYuv = s.outYuv := rfl

/-! ## `endFrame` -/

@[simp] theorem endFrame_params (s : State) : (endFrame s).params = s.params := by
  unfold endFrame; split <;> rfl
@[simp] theorem endFrame_hostIn (s : State) : (endFrame s).hostIn = s.hostIn := by
  unfold endFrame; split <;> rfl
@[simp] theorem endFrame_reply (s : State) : (endFrame s).reply = s.reply := by
  unfold endFrame; split <;> rfl
@[simp] theorem endFrame_running (s : State) : (endFrame s).running = s.running := by
  unfold endFrame; split <;> rfl
@[simp] theorem endFrame_emitted (s : State) : (endFrame s).emitted = s.emitted := by
  unfold endFrame; split <;> rfl
@[simp] theorem endFrame_configured (s : State) : (endFrame s).configured = s.configured := by
  unfold endFrame; split <;> rfl
@[simp] theorem endFrame_cfg (s : State) : (endFrame s).cfg = s.cfg := by
  unfold endFrame; split <;> rfl
@[simp] theorem endFrame_qt (s : State) : (endFrame s).qt = s.qt := by
  unfold endFrame; split <;> rfl
@[simp] theorem endFrame_qtActive (s : State) : (endFrame s).qtActive = s.qtActive := by
  unfold endFrame; split <;> rfl
@[simp] theorem endFrame_inBuf (s : State) : (endFrame s).inBuf = s.inBuf := by
  unfold endFrame; split <;> rfl
@[simp] theorem endFrame_fmt (s : State) : (endFrame s).fmt = s.fmt := by
  unfold endFrame; split <;> rfl
@[simp] theorem endFrame_hdr (s : State) : (endFrame s).hdr = s.hdr := by
  unfold endFrame; split <;> rfl
@[simp] theorem endFrame_bitPos (s : State) : (endFrame s).bitPos = s.bitPos := by
  unfold endFrame; split <;> rfl
@[simp] theorem endFrame_streamBits (s : State) : (endFrame s).streamBits = s.streamBits := by
  unfold endFrame; split <;> rfl
@[simp] theorem endFrame_dstate (s : State) : (endFrame s).dstate = s.dstate := by
  unfold endFrame; split <;> rfl
@[simp] theorem endFrame_trk (s : State) : (endFrame s).trk = s.trk := by
  unfold endFrame; split <;> rfl
@[simp] theorem endFrame_vpos (s : State) : (endFrame s).vpos = s.vpos := by
  unfold endFrame; split <;> rfl
@[simp] theorem endFrame_prevDc (s : State) : (endFrame s).prevDc = s.prevDc := by
  unfold endFrame; split <;> rfl
@[simp] theorem endFrame_degenCount (s : State) : (endFrame s).degenCount = s.degenCount := by
  unfold endFrame; split <;> rfl
@[simp] theorem endFrame_pendRun (s : State) : (endFrame s).pendRun = s.pendRun := by
  unfold endFrame; split <;> rfl
@[simp] theorem endFrame_blk (s : State) : (endFrame s).blk = s.blk := by
  unfold endFrame; split <;> rfl
@[simp] theorem endFrame_nzCount (s : State) : (endFrame s).nzCount = s.nzCount := by
  unfold endFrame; split <;> rfl
@[simp] theorem endFrame_lastNz (s : State) : (endFrame s).lastNz = s.lastNz := by
  unfold endFrame; split <;> rfl
@[simp] theorem endFrame_blkQscale (s : State) : (endFrame s).blkQscale = s.blkQscale := by
  unfold endFrame; split <;> rfl
@[simp] theorem endFrame_rpos (s : State) : (endFrame s).rpos = s.rpos := by
  unfold endFrame; split <;> rfl
@[simp] theorem endFrame_planeY (s : State) : (endFrame s).planeY = s.planeY := by
  unfold endFrame; split <;> rfl
@[simp] theorem endFrame_planeCb (s : State) : (endFrame s).planeCb = s.planeCb := by
  unfold endFrame; split <;> rfl
@[simp] theorem endFrame_planeCr (s : State) : (endFrame s).planeCr = s.planeCr := by
  unfold endFrame; split <;> rfl
@[simp] theorem endFrame_frameMode (s : State) : (endFrame s).frameMode = s.frameMode := by
  unfold endFrame; split <;> rfl
@[simp] theorem endFrame_outRgb (s : State) : (endFrame s).outRgb = s.outRgb := by
  unfold endFrame; split <;> rfl
@[simp] theorem endFrame_outYuv (s : State) : (endFrame s).outYuv = s.outYuv := by
  unfold endFrame; split <;> rfl

/-! ## `recordError` -/

@[simp] theorem recordError_params (e : FrameError) (s : State) : (recordError e s).params = s.params := by
  cases e <;> rfl
@[simp] theorem recordError_hostIn (e : FrameError) (s : State) : (recordError e s).hostIn = s.hostIn := by
  cases e <;> rfl
@[simp] theorem recordError_reply (e : FrameError) (s : State) : (recordError e s).reply = s.reply := by
  cases e <;> rfl
@[simp] theorem recordError_running (e : FrameError) (s : State) : (recordError e s).running = s.running := by
  cases e <;> rfl
@[simp] theorem recordError_emitted (e : FrameError) (s : State) : (recordError e s).emitted = s.emitted := by
  cases e <;> rfl
@[simp] theorem recordError_configured (e : FrameError) (s : State) : (recordError e s).configured = s.configured := by
  cases e <;> rfl
@[simp] theorem recordError_cfg (e : FrameError) (s : State) : (recordError e s).cfg = s.cfg := by
  cases e <;> rfl
@[simp] theorem recordError_qt (e : FrameError) (s : State) : (recordError e s).qt = s.qt := by
  cases e <;> rfl
@[simp] theorem recordError_qtActive (e : FrameError) (s : State) : (recordError e s).qtActive = s.qtActive := by
  cases e <;> rfl
@[simp] theorem recordError_inBuf (e : FrameError) (s : State) : (recordError e s).inBuf = s.inBuf := by
  cases e <;> rfl
@[simp] theorem recordError_fmt (e : FrameError) (s : State) : (recordError e s).fmt = s.fmt := by
  cases e <;> rfl
@[simp] theorem recordError_hdr (e : FrameError) (s : State) : (recordError e s).hdr = s.hdr := by
  cases e <;> rfl
@[simp] theorem recordError_bitPos (e : FrameError) (s : State) : (recordError e s).bitPos = s.bitPos := by
  cases e <;> rfl
@[simp] theorem recordError_streamBits (e : FrameError) (s : State) : (recordError e s).streamBits = s.streamBits := by
  cases e <;> rfl
@[simp] theorem recordError_dstate (e : FrameError) (s : State) : (recordError e s).dstate = .failed := by
  cases e <;> rfl
@[simp] theorem recordError_trk (e : FrameError) (s : State) : (recordError e s).trk = s.trk := by
  cases e <;> rfl
@[simp] theorem recordError_vpos (e : FrameError) (s : State) : (recordError e s).vpos = s.vpos := by
  cases e <;> rfl
@[simp] theorem recordError_prevDc (e : FrameError) (s : State) : (recordError e s).prevDc = s.prevDc := by
  cases e <;> rfl
@[simp] theorem recordError_degenCount (e : FrameError) (s : State) : (recordError e s).degenCount = s.degenCount := by
  cases e <;> rfl
@[simp] theorem recordError_pendRun (e : FrameError) (s : State) : (recordError e s).pendRun = s.pendRun := by
  cases e <;> rfl
@[simp] theorem recordError_blk (e : FrameError) (s : State) : (recordError e s).blk = s.blk := by
  cases e <;> rfl
@[simp] theorem recordError_nzCount (e : FrameError) (s : State) : (recordError e s).nzCount = s.nzCount := by
  cases e <;> rfl
@[simp] theorem recordError_lastNz (e : FrameError) (s : State) : (recordError e s).lastNz = s.lastNz := by
  cases e <;> rfl
@[simp] theorem recordError_blkQscale (e : FrameError) (s : State) : (recordError e s).blkQscale = s.blkQscale := by
  cases e <;> rfl
@[simp] theorem recordError_rpos (e : FrameError) (s : State) : (recordError e s).rpos = s.rpos := by
  cases e <;> rfl
@[simp] theorem recordError_planeY (e : FrameError) (s : State) : (recordError e s).planeY = s.planeY := by
  cases e <;> rfl
@[simp] theorem recordError_planeCb (e : FrameError) (s : State) : (recordError e s).planeCb = s.planeCb := by
  cases e <;> rfl
@[simp] theorem recordError_planeCr (e : FrameError) (s : State) : (recordError e s).planeCr = s.planeCr := by
  cases e <;> rfl
@[simp] theorem recordError_frameMode (e : FrameError) (s : State) : (recordError e s).frameMode = s.frameMode := by
  cases e <;> rfl
@[simp] theorem recordError_outRgb (e : FrameError) (s : State) : (recordError e s).outRgb = s.outRgb := by
  cases e <;> rfl
@[simp] theorem recordError_outYuv (e : FrameError) (s : State) : (recordError e s).outYuv = s.outYuv := by
  cases e <;> rfl

/-! ## `finish` -/

@[simp] theorem finish_params (r : Reply) (s : State) : (finish r s).params = s.params := rfl
@[simp] theorem finish_hostIn (r : Reply) (s : State) : (finish r s).hostIn = s.hostIn := rfl
@[simp] theorem finish_reply (r : Reply) (s : State) : (finish r s).reply = some r := rfl
@[simp] theorem finish_running (r : Reply) (s : State) : (finish r s).running = .idle := rfl
@[simp] theorem finish_emitted (r : Reply) (s : State) : (finish r s).emitted = none := rfl
@[simp] theorem finish_configured (r : Reply) (s : State) : (finish r s).configured = s.configured := rfl
@[simp] theorem finish_cfg (r : Reply) (s : State) : (finish r s).cfg = s.cfg := rfl
@[simp] theorem finish_qt (r : Reply) (s : State) : (finish r s).qt = s.qt := rfl
@[simp] theorem finish_qtActive (r : Reply) (s : State) : (finish r s).qtActive = s.qtActive := rfl
@[simp] theorem finish_inBuf (r : Reply) (s : State) : (finish r s).inBuf = s.inBuf := rfl
@[simp] theorem finish_fmt (r : Reply) (s : State) : (finish r s).fmt = s.fmt := rfl
@[simp] theorem finish_hdr (r : Reply) (s : State) : (finish r s).hdr = s.hdr := rfl
@[simp] theorem finish_bitPos (r : Reply) (s : State) : (finish r s).bitPos = s.bitPos := rfl
@[simp] theorem finish_streamBits (r : Reply) (s : State) : (finish r s).streamBits = s.streamBits := rfl
@[simp] theorem finish_dstate (r : Reply) (s : State) : (finish r s).dstate = s.dstate := rfl
@[simp] theorem finish_trk (r : Reply) (s : State) : (finish r s).trk = s.trk := rfl
@[simp] theorem finish_vpos (r : Reply) (s : State) : (finish r s).vpos = s.vpos := rfl
@[simp] theorem finish_prevDc (r : Reply) (s : State) : (finish r s).prevDc = s.prevDc := rfl
@[simp] theorem finish_degenCount (r : Reply) (s : State) : (finish r s).degenCount = s.degenCount := rfl
@[simp] theorem finish_pendRun (r : Reply) (s : State) : (finish r s).pendRun = s.pendRun := rfl
@[simp] theorem finish_blk (r : Reply) (s : State) : (finish r s).blk = s.blk := rfl
@[simp] theorem finish_nzCount (r : Reply) (s : State) : (finish r s).nzCount = s.nzCount := rfl
@[simp] theorem finish_lastNz (r : Reply) (s : State) : (finish r s).lastNz = s.lastNz := rfl
@[simp] theorem finish_blkQscale (r : Reply) (s : State) : (finish r s).blkQscale = s.blkQscale := rfl
@[simp] theorem finish_rpos (r : Reply) (s : State) : (finish r s).rpos = s.rpos := rfl
@[simp] theorem finish_planeY (r : Reply) (s : State) : (finish r s).planeY = s.planeY := rfl
@[simp] theorem finish_planeCb (r : Reply) (s : State) : (finish r s).planeCb = s.planeCb := rfl
@[simp] theorem finish_planeCr (r : Reply) (s : State) : (finish r s).planeCr = s.planeCr := rfl
@[simp] theorem finish_status (r : Reply) (s : State) : (finish r s).status = s.status := rfl
@[simp] theorem finish_frameMode (r : Reply) (s : State) : (finish r s).frameMode = s.frameMode := rfl
@[simp] theorem finish_outRgb (r : Reply) (s : State) : (finish r s).outRgb = s.outRgb := rfl
@[simp] theorem finish_outYuv (r : Reply) (s : State) : (finish r s).outYuv = s.outYuv := rfl

/-! ## `setPlane` -/

@[simp] theorem setPlane_params (p : PlaneId) (m : Memory Sample) (s : State) : (s.setPlane p m).params = s.params := by
  cases p <;> rfl
@[simp] theorem setPlane_hostIn (p : PlaneId) (m : Memory Sample) (s : State) : (s.setPlane p m).hostIn = s.hostIn := by
  cases p <;> rfl
@[simp] theorem setPlane_reply (p : PlaneId) (m : Memory Sample) (s : State) : (s.setPlane p m).reply = s.reply := by
  cases p <;> rfl
@[simp] theorem setPlane_running (p : PlaneId) (m : Memory Sample) (s : State) :
    (s.setPlane p m).running = s.running := by
  cases p <;> rfl
@[simp] theorem setPlane_emitted (p : PlaneId) (m : Memory Sample) (s : State) :
    (s.setPlane p m).emitted = s.emitted := by
  cases p <;> rfl
@[simp] theorem setPlane_configured (p : PlaneId) (m : Memory Sample) (s : State) :
    (s.setPlane p m).configured = s.configured := by
  cases p <;> rfl
@[simp] theorem setPlane_cfg (p : PlaneId) (m : Memory Sample) (s : State) : (s.setPlane p m).cfg = s.cfg := by
  cases p <;> rfl
@[simp] theorem setPlane_qt (p : PlaneId) (m : Memory Sample) (s : State) : (s.setPlane p m).qt = s.qt := by
  cases p <;> rfl
@[simp] theorem setPlane_qtActive (p : PlaneId) (m : Memory Sample) (s : State) :
    (s.setPlane p m).qtActive = s.qtActive := by
  cases p <;> rfl
@[simp] theorem setPlane_inBuf (p : PlaneId) (m : Memory Sample) (s : State) : (s.setPlane p m).inBuf = s.inBuf := by
  cases p <;> rfl
@[simp] theorem setPlane_fmt (p : PlaneId) (m : Memory Sample) (s : State) : (s.setPlane p m).fmt = s.fmt := by
  cases p <;> rfl
@[simp] theorem setPlane_hdr (p : PlaneId) (m : Memory Sample) (s : State) : (s.setPlane p m).hdr = s.hdr := by
  cases p <;> rfl
@[simp] theorem setPlane_bitPos (p : PlaneId) (m : Memory Sample) (s : State) : (s.setPlane p m).bitPos = s.bitPos := by
  cases p <;> rfl
@[simp] theorem setPlane_streamBits (p : PlaneId) (m : Memory Sample) (s : State) :
    (s.setPlane p m).streamBits = s.streamBits := by
  cases p <;> rfl
@[simp] theorem setPlane_dstate (p : PlaneId) (m : Memory Sample) (s : State) : (s.setPlane p m).dstate = s.dstate := by
  cases p <;> rfl
@[simp] theorem setPlane_trk (p : PlaneId) (m : Memory Sample) (s : State) : (s.setPlane p m).trk = s.trk := by
  cases p <;> rfl
@[simp] theorem setPlane_vpos (p : PlaneId) (m : Memory Sample) (s : State) : (s.setPlane p m).vpos = s.vpos := by
  cases p <;> rfl
@[simp] theorem setPlane_prevDc (p : PlaneId) (m : Memory Sample) (s : State) : (s.setPlane p m).prevDc = s.prevDc := by
  cases p <;> rfl
@[simp] theorem setPlane_degenCount (p : PlaneId) (m : Memory Sample) (s : State) :
    (s.setPlane p m).degenCount = s.degenCount := by
  cases p <;> rfl
@[simp] theorem setPlane_pendRun (p : PlaneId) (m : Memory Sample) (s : State) :
    (s.setPlane p m).pendRun = s.pendRun := by
  cases p <;> rfl
@[simp] theorem setPlane_blk (p : PlaneId) (m : Memory Sample) (s : State) : (s.setPlane p m).blk = s.blk := by
  cases p <;> rfl
@[simp] theorem setPlane_nzCount (p : PlaneId) (m : Memory Sample) (s : State) :
    (s.setPlane p m).nzCount = s.nzCount := by
  cases p <;> rfl
@[simp] theorem setPlane_lastNz (p : PlaneId) (m : Memory Sample) (s : State) : (s.setPlane p m).lastNz = s.lastNz := by
  cases p <;> rfl
@[simp] theorem setPlane_blkQscale (p : PlaneId) (m : Memory Sample) (s : State) :
    (s.setPlane p m).blkQscale = s.blkQscale := by
  cases p <;> rfl
@[simp] theorem setPlane_rpos (p : PlaneId) (m : Memory Sample) (s : State) : (s.setPlane p m).rpos = s.rpos := by
  cases p <;> rfl
@[simp] theorem setPlane_status (p : PlaneId) (m : Memory Sample) (s : State) : (s.setPlane p m).status = s.status := by
  cases p <;> rfl
@[simp] theorem setPlane_frameMode (p : PlaneId) (m : Memory Sample) (s : State) :
    (s.setPlane p m).frameMode = s.frameMode := by
  cases p <;> rfl
@[simp] theorem setPlane_outRgb (p : PlaneId) (m : Memory Sample) (s : State) : (s.setPlane p m).outRgb = s.outRgb := by
  cases p <;> rfl
@[simp] theorem setPlane_outYuv (p : PlaneId) (m : Memory Sample) (s : State) : (s.setPlane p m).outYuv = s.outYuv := by
  cases p <;> rfl

/-! ## `emit` -/

@[simp] theorem emit_params (start : Nat) (c : Code) (s : State) : (emit start c s).params = s.params := rfl
@[simp] theorem emit_hostIn (start : Nat) (c : Code) (s : State) : (emit start c s).hostIn = s.hostIn := rfl
@[simp] theorem emit_reply (start : Nat) (c : Code) (s : State) : (emit start c s).reply = s.reply := rfl
@[simp] theorem emit_running (start : Nat) (c : Code) (s : State) : (emit start c s).running = s.running := rfl
@[simp] theorem emit_emitted (start : Nat) (c : Code) (s : State) :
    (emit start c s).emitted = some ⟨c, s.trk.mbIndex, s.trk.role, s.trk.firstOfBlock, s.trk.codesInBlock, start⟩ := rfl
@[simp] theorem emit_configured (start : Nat) (c : Code) (s : State) : (emit start c s).configured = s.configured := rfl
@[simp] theorem emit_cfg (start : Nat) (c : Code) (s : State) : (emit start c s).cfg = s.cfg := rfl
@[simp] theorem emit_qt (start : Nat) (c : Code) (s : State) : (emit start c s).qt = s.qt := rfl
@[simp] theorem emit_qtActive (start : Nat) (c : Code) (s : State) : (emit start c s).qtActive = s.qtActive := rfl
@[simp] theorem emit_inBuf (start : Nat) (c : Code) (s : State) : (emit start c s).inBuf = s.inBuf := rfl
@[simp] theorem emit_fmt (start : Nat) (c : Code) (s : State) : (emit start c s).fmt = s.fmt := rfl
@[simp] theorem emit_hdr (start : Nat) (c : Code) (s : State) : (emit start c s).hdr = s.hdr := rfl
@[simp] theorem emit_bitPos (start : Nat) (c : Code) (s : State) : (emit start c s).bitPos = s.bitPos := rfl
@[simp] theorem emit_streamBits (start : Nat) (c : Code) (s : State) : (emit start c s).streamBits = s.streamBits := rfl
@[simp] theorem emit_trk (start : Nat) (c : Code) (s : State) :
    (emit start c s).trk = if isTerminal s.trk.firstOfBlock c then s.trk.advanceEob else s.trk.advanceCode := rfl
@[simp] theorem emit_vpos (start : Nat) (c : Code) (s : State) : (emit start c s).vpos = s.vpos := rfl
@[simp] theorem emit_prevDc (start : Nat) (c : Code) (s : State) : (emit start c s).prevDc = s.prevDc := rfl
@[simp] theorem emit_degenCount (start : Nat) (c : Code) (s : State) : (emit start c s).degenCount = s.degenCount := rfl
@[simp] theorem emit_pendRun (start : Nat) (c : Code) (s : State) : (emit start c s).pendRun = s.pendRun := rfl
@[simp] theorem emit_blk (start : Nat) (c : Code) (s : State) : (emit start c s).blk = s.blk := rfl
@[simp] theorem emit_nzCount (start : Nat) (c : Code) (s : State) : (emit start c s).nzCount = s.nzCount := rfl
@[simp] theorem emit_lastNz (start : Nat) (c : Code) (s : State) : (emit start c s).lastNz = s.lastNz := rfl
@[simp] theorem emit_blkQscale (start : Nat) (c : Code) (s : State) : (emit start c s).blkQscale = s.blkQscale := rfl
@[simp] theorem emit_rpos (start : Nat) (c : Code) (s : State) : (emit start c s).rpos = s.rpos := rfl
@[simp] theorem emit_planeY (start : Nat) (c : Code) (s : State) : (emit start c s).planeY = s.planeY := rfl
@[simp] theorem emit_planeCb (start : Nat) (c : Code) (s : State) : (emit start c s).planeCb = s.planeCb := rfl
@[simp] theorem emit_planeCr (start : Nat) (c : Code) (s : State) : (emit start c s).planeCr = s.planeCr := rfl
@[simp] theorem emit_status (start : Nat) (c : Code) (s : State) : (emit start c s).status = s.status := rfl
@[simp] theorem emit_frameMode (start : Nat) (c : Code) (s : State) : (emit start c s).frameMode = s.frameMode := rfl
@[simp] theorem emit_outRgb (start : Nat) (c : Code) (s : State) : (emit start c s).outRgb = s.outRgb := rfl
@[simp] theorem emit_outYuv (start : Nat) (c : Code) (s : State) : (emit start c s).outYuv = s.outYuv := rfl

/-! ## `startLoop` -/

@[simp] theorem startLoop_params (op : Running) (s : State) : (startLoop op s).params = s.params := rfl
@[simp] theorem startLoop_hostIn (op : Running) (s : State) : (startLoop op s).hostIn = s.hostIn := rfl
@[simp] theorem startLoop_reply (op : Running) (s : State) : (startLoop op s).reply = s.reply := rfl
@[simp] theorem startLoop_running (op : Running) (s : State) : (startLoop op s).running = op := rfl
@[simp] theorem startLoop_emitted (op : Running) (s : State) : (startLoop op s).emitted = none := rfl
@[simp] theorem startLoop_configured (op : Running) (s : State) : (startLoop op s).configured = s.configured := rfl
@[simp] theorem startLoop_cfg (op : Running) (s : State) : (startLoop op s).cfg = s.cfg := rfl
@[simp] theorem startLoop_qt (op : Running) (s : State) : (startLoop op s).qt = s.qt := rfl
@[simp] theorem startLoop_qtActive (op : Running) (s : State) : (startLoop op s).qtActive = s.qtActive := rfl
@[simp] theorem startLoop_inBuf (op : Running) (s : State) : (startLoop op s).inBuf = s.inBuf := rfl
@[simp] theorem startLoop_fmt (op : Running) (s : State) : (startLoop op s).fmt = s.fmt := rfl
@[simp] theorem startLoop_hdr (op : Running) (s : State) : (startLoop op s).hdr = s.hdr := rfl
@[simp] theorem startLoop_bitPos (op : Running) (s : State) : (startLoop op s).bitPos = s.bitPos := rfl
@[simp] theorem startLoop_streamBits (op : Running) (s : State) : (startLoop op s).streamBits = s.streamBits := rfl
@[simp] theorem startLoop_dstate (op : Running) (s : State) : (startLoop op s).dstate = s.dstate := rfl
@[simp] theorem startLoop_trk (op : Running) (s : State) : (startLoop op s).trk = s.trk := rfl
@[simp] theorem startLoop_vpos (op : Running) (s : State) : (startLoop op s).vpos = s.vpos := rfl
@[simp] theorem startLoop_prevDc (op : Running) (s : State) : (startLoop op s).prevDc = s.prevDc := rfl
@[simp] theorem startLoop_degenCount (op : Running) (s : State) : (startLoop op s).degenCount = s.degenCount := rfl
@[simp] theorem startLoop_pendRun (op : Running) (s : State) : (startLoop op s).pendRun = s.pendRun := rfl
@[simp] theorem startLoop_blk (op : Running) (s : State) : (startLoop op s).blk = s.blk := rfl
@[simp] theorem startLoop_nzCount (op : Running) (s : State) : (startLoop op s).nzCount = s.nzCount := rfl
@[simp] theorem startLoop_lastNz (op : Running) (s : State) : (startLoop op s).lastNz = s.lastNz := rfl
@[simp] theorem startLoop_blkQscale (op : Running) (s : State) : (startLoop op s).blkQscale = s.blkQscale := rfl
@[simp] theorem startLoop_rpos (op : Running) (s : State) : (startLoop op s).rpos = s.rpos := rfl
@[simp] theorem startLoop_planeY (op : Running) (s : State) : (startLoop op s).planeY = s.planeY := rfl
@[simp] theorem startLoop_planeCb (op : Running) (s : State) : (startLoop op s).planeCb = s.planeCb := rfl
@[simp] theorem startLoop_planeCr (op : Running) (s : State) : (startLoop op s).planeCr = s.planeCr := rfl
@[simp] theorem startLoop_status (op : Running) (s : State) : (startLoop op s).status = s.status := rfl
@[simp] theorem startLoop_frameMode (op : Running) (s : State) : (startLoop op s).frameMode = s.frameMode := rfl
@[simp] theorem startLoop_outRgb (op : Running) (s : State) : (startLoop op s).outRgb = s.outRgb := rfl
@[simp] theorem startLoop_outYuv (op : Running) (s : State) : (startLoop op s).outYuv = s.outYuv := rfl

/-! ## `countDegenerate` -/

@[simp] theorem countDegenerate_params (s : State) : (countDegenerate s).params = s.params := rfl
@[simp] theorem countDegenerate_hostIn (s : State) : (countDegenerate s).hostIn = s.hostIn := rfl
@[simp] theorem countDegenerate_reply (s : State) : (countDegenerate s).reply = s.reply := rfl
@[simp] theorem countDegenerate_running (s : State) : (countDegenerate s).running = s.running := rfl
@[simp] theorem countDegenerate_emitted (s : State) : (countDegenerate s).emitted = s.emitted := rfl
@[simp] theorem countDegenerate_configured (s : State) : (countDegenerate s).configured = s.configured := rfl
@[simp] theorem countDegenerate_cfg (s : State) : (countDegenerate s).cfg = s.cfg := rfl
@[simp] theorem countDegenerate_qt (s : State) : (countDegenerate s).qt = s.qt := rfl
@[simp] theorem countDegenerate_qtActive (s : State) : (countDegenerate s).qtActive = s.qtActive := rfl
@[simp] theorem countDegenerate_inBuf (s : State) : (countDegenerate s).inBuf = s.inBuf := rfl
@[simp] theorem countDegenerate_fmt (s : State) : (countDegenerate s).fmt = s.fmt := rfl
@[simp] theorem countDegenerate_hdr (s : State) : (countDegenerate s).hdr = s.hdr := rfl
@[simp] theorem countDegenerate_bitPos (s : State) : (countDegenerate s).bitPos = s.bitPos := rfl
@[simp] theorem countDegenerate_streamBits (s : State) : (countDegenerate s).streamBits = s.streamBits := rfl
@[simp] theorem countDegenerate_dstate (s : State) : (countDegenerate s).dstate = s.dstate := rfl
@[simp] theorem countDegenerate_trk (s : State) : (countDegenerate s).trk = s.trk := rfl
@[simp] theorem countDegenerate_vpos (s : State) : (countDegenerate s).vpos = s.vpos := rfl
@[simp] theorem countDegenerate_prevDc (s : State) : (countDegenerate s).prevDc = s.prevDc := rfl
@[simp] theorem countDegenerate_degenCount (s : State) : (countDegenerate s).degenCount = s.degenCount + 1 := rfl
@[simp] theorem countDegenerate_pendRun (s : State) : (countDegenerate s).pendRun = s.pendRun := rfl
@[simp] theorem countDegenerate_blk (s : State) : (countDegenerate s).blk = s.blk := rfl
@[simp] theorem countDegenerate_nzCount (s : State) : (countDegenerate s).nzCount = s.nzCount := rfl
@[simp] theorem countDegenerate_lastNz (s : State) : (countDegenerate s).lastNz = s.lastNz := rfl
@[simp] theorem countDegenerate_blkQscale (s : State) : (countDegenerate s).blkQscale = s.blkQscale := rfl
@[simp] theorem countDegenerate_rpos (s : State) : (countDegenerate s).rpos = s.rpos := rfl
@[simp] theorem countDegenerate_planeY (s : State) : (countDegenerate s).planeY = s.planeY := rfl
@[simp] theorem countDegenerate_planeCb (s : State) : (countDegenerate s).planeCb = s.planeCb := rfl
@[simp] theorem countDegenerate_planeCr (s : State) : (countDegenerate s).planeCr = s.planeCr := rfl
@[simp] theorem countDegenerate_status (s : State) :
    (countDegenerate s).status = { s.status with degenCount := s.degenCount + 1 } := rfl
@[simp] theorem countDegenerate_frameMode (s : State) : (countDegenerate s).frameMode = s.frameMode := rfl
@[simp] theorem countDegenerate_outRgb (s : State) : (countDegenerate s).outRgb = s.outRgb := rfl
@[simp] theorem countDegenerate_outYuv (s : State) : (countDegenerate s).outYuv = s.outYuv := rfl

/-! ## `blockStart` -/

@[simp] theorem blockStart_params (s : State) : (blockStart s).params = s.params := rfl
@[simp] theorem blockStart_hostIn (s : State) : (blockStart s).hostIn = s.hostIn := rfl
@[simp] theorem blockStart_reply (s : State) : (blockStart s).reply = s.reply := rfl
@[simp] theorem blockStart_running (s : State) : (blockStart s).running = s.running := rfl
@[simp] theorem blockStart_emitted (s : State) : (blockStart s).emitted = s.emitted := rfl
@[simp] theorem blockStart_configured (s : State) : (blockStart s).configured = s.configured := rfl
@[simp] theorem blockStart_cfg (s : State) : (blockStart s).cfg = s.cfg := rfl
@[simp] theorem blockStart_qt (s : State) : (blockStart s).qt = s.qt := rfl
@[simp] theorem blockStart_qtActive (s : State) : (blockStart s).qtActive = s.qtActive := rfl
@[simp] theorem blockStart_inBuf (s : State) : (blockStart s).inBuf = s.inBuf := rfl
@[simp] theorem blockStart_fmt (s : State) : (blockStart s).fmt = s.fmt := rfl
@[simp] theorem blockStart_hdr (s : State) : (blockStart s).hdr = s.hdr := rfl
@[simp] theorem blockStart_bitPos (s : State) : (blockStart s).bitPos = s.bitPos := rfl
@[simp] theorem blockStart_streamBits (s : State) : (blockStart s).streamBits = s.streamBits := rfl
@[simp] theorem blockStart_dstate (s : State) : (blockStart s).dstate = s.dstate := rfl
@[simp] theorem blockStart_trk (s : State) : (blockStart s).trk = s.trk := rfl
@[simp] theorem blockStart_vpos (s : State) : (blockStart s).vpos = s.vpos := rfl
@[simp] theorem blockStart_prevDc (s : State) : (blockStart s).prevDc = s.prevDc := rfl
@[simp] theorem blockStart_degenCount (s : State) : (blockStart s).degenCount = s.degenCount := rfl
@[simp] theorem blockStart_pendRun (s : State) : (blockStart s).pendRun = s.pendRun := rfl
@[simp] theorem blockStart_blk (s : State) : (blockStart s).blk = Vector.replicate 64 (zeroSample s.cfg.variant) := rfl
@[simp] theorem blockStart_nzCount (s : State) : (blockStart s).nzCount = 0 := rfl
@[simp] theorem blockStart_lastNz (s : State) : (blockStart s).lastNz = none := rfl
@[simp] theorem blockStart_blkQscale (s : State) : (blockStart s).blkQscale = s.blkQscale := rfl
@[simp] theorem blockStart_rpos (s : State) : (blockStart s).rpos = 0 := rfl
@[simp] theorem blockStart_planeY (s : State) : (blockStart s).planeY = s.planeY := rfl
@[simp] theorem blockStart_planeCb (s : State) : (blockStart s).planeCb = s.planeCb := rfl
@[simp] theorem blockStart_planeCr (s : State) : (blockStart s).planeCr = s.planeCr := rfl
@[simp] theorem blockStart_status (s : State) : (blockStart s).status = s.status := rfl
@[simp] theorem blockStart_frameMode (s : State) : (blockStart s).frameMode = s.frameMode := rfl
@[simp] theorem blockStart_outRgb (s : State) : (blockStart s).outRgb = s.outRgb := rfl
@[simp] theorem blockStart_outYuv (s : State) : (blockStart s).outYuv = s.outYuv := rfl

/-! ## `reconAdvance` -/

@[simp] theorem reconAdvance_params (p : Passed) (s : State) : (reconAdvance p s).params = s.params := rfl
@[simp] theorem reconAdvance_hostIn (p : Passed) (s : State) : (reconAdvance p s).hostIn = s.hostIn := rfl
@[simp] theorem reconAdvance_reply (p : Passed) (s : State) : (reconAdvance p s).reply = s.reply := rfl
@[simp] theorem reconAdvance_running (p : Passed) (s : State) : (reconAdvance p s).running = s.running := rfl
@[simp] theorem reconAdvance_emitted (p : Passed) (s : State) : (reconAdvance p s).emitted = s.emitted := rfl
@[simp] theorem reconAdvance_configured (p : Passed) (s : State) : (reconAdvance p s).configured = s.configured := rfl
@[simp] theorem reconAdvance_cfg (p : Passed) (s : State) : (reconAdvance p s).cfg = s.cfg := rfl
@[simp] theorem reconAdvance_qt (p : Passed) (s : State) : (reconAdvance p s).qt = s.qt := rfl
@[simp] theorem reconAdvance_qtActive (p : Passed) (s : State) : (reconAdvance p s).qtActive = s.qtActive := rfl
@[simp] theorem reconAdvance_inBuf (p : Passed) (s : State) : (reconAdvance p s).inBuf = s.inBuf := rfl
@[simp] theorem reconAdvance_fmt (p : Passed) (s : State) : (reconAdvance p s).fmt = s.fmt := rfl
@[simp] theorem reconAdvance_hdr (p : Passed) (s : State) : (reconAdvance p s).hdr = s.hdr := rfl
@[simp] theorem reconAdvance_bitPos (p : Passed) (s : State) : (reconAdvance p s).bitPos = s.bitPos := rfl
@[simp] theorem reconAdvance_streamBits (p : Passed) (s : State) : (reconAdvance p s).streamBits = s.streamBits := rfl
@[simp] theorem reconAdvance_dstate (p : Passed) (s : State) : (reconAdvance p s).dstate = s.dstate := rfl
@[simp] theorem reconAdvance_trk (p : Passed) (s : State) : (reconAdvance p s).trk = s.trk := rfl
@[simp] theorem reconAdvance_vpos (p : Passed) (s : State) : (reconAdvance p s).vpos = s.vpos := rfl
@[simp] theorem reconAdvance_prevDc (p : Passed) (s : State) : (reconAdvance p s).prevDc = s.prevDc := rfl
@[simp] theorem reconAdvance_degenCount (p : Passed) (s : State) : (reconAdvance p s).degenCount = s.degenCount := rfl
@[simp] theorem reconAdvance_pendRun (p : Passed) (s : State) : (reconAdvance p s).pendRun = s.pendRun := rfl
@[simp] theorem reconAdvance_blk (p : Passed) (s : State) : (reconAdvance p s).blk = s.blk := rfl
@[simp] theorem reconAdvance_nzCount (p : Passed) (s : State) : (reconAdvance p s).nzCount = s.nzCount := rfl
@[simp] theorem reconAdvance_lastNz (p : Passed) (s : State) : (reconAdvance p s).lastNz = s.lastNz := rfl
@[simp] theorem reconAdvance_blkQscale (p : Passed) (s : State) : (reconAdvance p s).blkQscale = s.blkQscale := rfl
@[simp] theorem reconAdvance_rpos (p : Passed) (s : State) : (reconAdvance p s).rpos = s.rpos + p.top6 + 1 := rfl
@[simp] theorem reconAdvance_planeY (p : Passed) (s : State) : (reconAdvance p s).planeY = s.planeY := rfl
@[simp] theorem reconAdvance_planeCb (p : Passed) (s : State) : (reconAdvance p s).planeCb = s.planeCb := rfl
@[simp] theorem reconAdvance_planeCr (p : Passed) (s : State) : (reconAdvance p s).planeCr = s.planeCr := rfl
@[simp] theorem reconAdvance_status (p : Passed) (s : State) : (reconAdvance p s).status = s.status := rfl
@[simp] theorem reconAdvance_frameMode (p : Passed) (s : State) : (reconAdvance p s).frameMode = s.frameMode := rfl
@[simp] theorem reconAdvance_outRgb (p : Passed) (s : State) : (reconAdvance p s).outRgb = s.outRgb := rfl
@[simp] theorem reconAdvance_outYuv (p : Passed) (s : State) : (reconAdvance p s).outYuv = s.outYuv := rfl

/-! ## `frameStart` -/

@[simp] theorem frameStart_params (bytes : List Byte) (s : State) : (frameStart bytes s).params = s.params := rfl
@[simp] theorem frameStart_hostIn (bytes : List Byte) (s : State) : (frameStart bytes s).hostIn = s.hostIn := rfl
@[simp] theorem frameStart_reply (bytes : List Byte) (s : State) : (frameStart bytes s).reply = s.reply := rfl
@[simp] theorem frameStart_running (bytes : List Byte) (s : State) : (frameStart bytes s).running = s.running := rfl
@[simp] theorem frameStart_emitted (bytes : List Byte) (s : State) : (frameStart bytes s).emitted = s.emitted := rfl
@[simp] theorem frameStart_configured (bytes : List Byte) (s : State) :
    (frameStart bytes s).configured = s.configured := rfl
@[simp] theorem frameStart_cfg (bytes : List Byte) (s : State) : (frameStart bytes s).cfg = s.cfg := rfl
@[simp] theorem frameStart_qt (bytes : List Byte) (s : State) : (frameStart bytes s).qt = s.qt := rfl
@[simp] theorem frameStart_qtActive (bytes : List Byte) (s : State) : (frameStart bytes s).qtActive = s.qt := rfl
@[simp] theorem frameStart_inBuf (bytes : List Byte) (s : State) : (frameStart bytes s).inBuf = bytes := rfl
@[simp] theorem frameStart_fmt (bytes : List Byte) (s : State) : (frameStart bytes s).fmt = none := rfl
@[simp] theorem frameStart_hdr (bytes : List Byte) (s : State) : (frameStart bytes s).hdr = Hdr.empty := rfl
@[simp] theorem frameStart_bitPos (bytes : List Byte) (s : State) : (frameStart bytes s).bitPos = 0 := rfl
@[simp] theorem frameStart_streamBits (bytes : List Byte) (s : State) : (frameStart bytes s).streamBits = 0 := rfl
@[simp] theorem frameStart_dstate (bytes : List Byte) (s : State) : (frameStart bytes s).dstate = s.dstate := rfl
@[simp] theorem frameStart_trk (bytes : List Byte) (s : State) : (frameStart bytes s).trk = Tracker.initial := rfl
@[simp] theorem frameStart_vpos (bytes : List Byte) (s : State) : (frameStart bytes s).vpos = 0 := rfl
@[simp] theorem frameStart_prevDc (bytes : List Byte) (s : State) : (frameStart bytes s).prevDc = ⟨0, 0, 0⟩ := rfl
@[simp] theorem frameStart_degenCount (bytes : List Byte) (s : State) : (frameStart bytes s).degenCount = 0 := rfl
@[simp] theorem frameStart_pendRun (bytes : List Byte) (s : State) : (frameStart bytes s).pendRun = none := rfl
@[simp] theorem frameStart_blk (bytes : List Byte) (s : State) : (frameStart bytes s).blk = s.blk := rfl
@[simp] theorem frameStart_nzCount (bytes : List Byte) (s : State) : (frameStart bytes s).nzCount = s.nzCount := rfl
@[simp] theorem frameStart_lastNz (bytes : List Byte) (s : State) : (frameStart bytes s).lastNz = s.lastNz := rfl
@[simp] theorem frameStart_blkQscale (bytes : List Byte) (s : State) :
    (frameStart bytes s).blkQscale = s.blkQscale := rfl
@[simp] theorem frameStart_rpos (bytes : List Byte) (s : State) : (frameStart bytes s).rpos = s.rpos := rfl
@[simp] theorem frameStart_planeY (bytes : List Byte) (s : State) : (frameStart bytes s).planeY = s.planeY := rfl
@[simp] theorem frameStart_planeCb (bytes : List Byte) (s : State) : (frameStart bytes s).planeCb = s.planeCb := rfl
@[simp] theorem frameStart_planeCr (bytes : List Byte) (s : State) : (frameStart bytes s).planeCr = s.planeCr := rfl
@[simp] theorem frameStart_status (bytes : List Byte) (s : State) : (frameStart bytes s).status = Status.clear := rfl
@[simp] theorem frameStart_frameMode (bytes : List Byte) (s : State) : (frameStart bytes s).frameMode = .none := rfl
@[simp] theorem frameStart_outRgb (bytes : List Byte) (s : State) : (frameStart bytes s).outRgb = s.outRgb := rfl
@[simp] theorem frameStart_outYuv (bytes : List Byte) (s : State) : (frameStart bytes s).outYuv = s.outYuv := rfl

end Sys2Proof.Machine
end

