-- ==== Sys2Proof/Laws/Stream.lean ====
section
/-! SUPPORT. The loop of a running operation: what it fetches is never a host command, so its micro-step is the core's
own step, and the loop's unfoldings. -/

namespace Sys2Proof.Machine

/-- Inside an operation the loop and the dispatch give a codeword or a code the same meaning. -/
theorem execStream_eq_exec {i : Instr} (h : contextOf i ≠ .command) (s : State) : execStream i s = exec i s := by
  cases i <;> first | rfl | exact absurd rfl h

/-- A codeword found in a table comes from one of its rows. -/
theorem classifyRows_found {rows : List Row} {w : Bits} {i : Instr} {n : Nat} (h : classifyRows rows w = .found i n) :
    ∃ r ∈ rows, ∃ operand rest, splitExact r.extra rest = some (operand, w.drop n) ∧
      stripPrefix r.code w = some rest ∧ i = r.build operand ∧ n = r.code.length + r.extra := by
  have strip : ∀ c w rest, stripPrefix c w = some rest → w = c ++ rest := by
    intro c
    induction c with
    | nil => intro w rest h; simpa [stripPrefix] using h
    | cons b c ih =>
      intro w rest h
      cases w with
      | nil => simp [stripPrefix] at h
      | cons a w =>
        simp only [stripPrefix] at h
        split at h
        · rename_i hb; subst hb; rw [ih w rest h]; rfl
        · cases h
  have split : ∀ k (l a b : Bits), splitExact k l = some (a, b) → l = a ++ b ∧ a.length = k := by
    intro k
    induction k with
    | zero => intro l a b h; simp [splitExact] at h; simp [h]
    | succ k ih =>
      intro l a b h
      cases l with
      | nil => simp [splitExact] at h
      | cons x l =>
        simp only [splitExact] at h
        split at h
        · rename_i f r hf
          simp only [Option.some.injEq, Prod.mk.injEq] at h
          obtain ⟨rfl, rfl⟩ := h
          have := ih l f r hf
          exact ⟨by rw [this.1]; rfl, by simp [this.2]⟩
        · cases h
  unfold classifyRows at h
  split at h
  · rename_i j m hf
    simp only [Match.found.injEq] at h
    obtain ⟨rfl, rfl⟩ := h
    obtain ⟨r, hr, hm⟩ := List.exists_of_findSome?_eq_some hf
    refine ⟨r, hr, ?_⟩
    unfold matchRow at hm
    split at hm
    · cases hm
    · rename_i rest hrest
      split at hm
      · cases hm
      · rename_i operand tail hop
        simp only [Option.some.injEq, Prod.mk.injEq] at hm
        obtain ⟨rfl, rfl⟩ := hm
        refine ⟨operand, rest, ?_, hrest, rfl, rfl⟩
        have h1 := strip _ _ _ hrest
        have h2 := split _ _ _ _ hop
        rw [hop, h1, h2.1, ← List.append_assoc, List.drop_left' (by simp [h2.2])]
  · split at h <;> cases h

/-- Every row of a table builds an instruction of a bitstream. -/
def NoCommand (rows : List Row) : Prop := ∀ r ∈ rows, ∀ b, contextOf (r.build b) ≠ .command

theorem NoCommand.append {p q : List Row} (hp : NoCommand p) (hq : NoCommand q) : NoCommand (p ++ q) := by
  intro r hr
  rcases List.mem_append.mp hr with hr | hr
  · exact hp r hr
  · exact hq r hr

theorem NoCommand.nil : NoCommand [] := fun _ h => by cases h

theorem NoCommand.cons {r : Row} {rows : List Row} (c : Context) (hc : c ≠ .command)
    (hr : ∀ b, contextOf (r.build b) = c) (h : NoCommand rows) : NoCommand (r :: rows) := by
  intro r' hr' b
  rcases List.mem_cons.mp hr' with rfl | hr'
  · rw [hr b]; exact hc
  · exact h r' hr' b

theorem noCommand_controlRows : NoCommand controlRows := by
  unfold controlRows
  repeat' first | exact NoCommand.nil | refine NoCommand.cons .ac (by decide) (fun _ => rfl) ?_

theorem noCommand_acRows2to7 : NoCommand acRows2to7 := by
  unfold acRows2to7
  repeat' first | exact NoCommand.nil | refine NoCommand.cons .ac (by decide) (fun _ => rfl) ?_

theorem noCommand_acRows8to10 : NoCommand acRows8to10 := by
  unfold acRows8to10
  repeat' first | exact NoCommand.nil | refine NoCommand.cons .ac (by decide) (fun _ => rfl) ?_

theorem noCommand_acRows12 : NoCommand acRows12 := by
  unfold acRows12
  repeat' first | exact NoCommand.nil | refine NoCommand.cons .ac (by decide) (fun _ => rfl) ?_

theorem noCommand_acRows13 : NoCommand acRows13 := by
  unfold acRows13
  repeat' first | exact NoCommand.nil | refine NoCommand.cons .ac (by decide) (fun _ => rfl) ?_

theorem noCommand_acRows14 : NoCommand acRows14 := by
  unfold acRows14
  repeat' first | exact NoCommand.nil | refine NoCommand.cons .ac (by decide) (fun _ => rfl) ?_

theorem noCommand_acRows15 : NoCommand acRows15 := by
  unfold acRows15
  repeat' first | exact NoCommand.nil | refine NoCommand.cons .ac (by decide) (fun _ => rfl) ?_

theorem noCommand_acRows16 : NoCommand acRows16 := by
  unfold acRows16
  repeat' first | exact NoCommand.nil | refine NoCommand.cons .ac (by decide) (fun _ => rfl) ?_

theorem noCommand_dcLumaRows : NoCommand dcLumaRows := by
  unfold dcLumaRows
  repeat' first | exact NoCommand.nil | refine NoCommand.cons .dcLuma (by decide) (fun _ => rfl) ?_

theorem noCommand_dcChromaRows : NoCommand dcChromaRows := by
  unfold dcChromaRows
  repeat' first | exact NoCommand.nil | refine NoCommand.cons .dcChroma (by decide) (fun _ => rfl) ?_

theorem noCommand_dcSharedRows : NoCommand dcSharedRows := by
  unfold dcSharedRows
  repeat' first | exact NoCommand.nil | refine NoCommand.cons .dcShared (by decide) (fun _ => rfl) ?_

/-- No row of a codeword table builds a host command. -/
theorem rowsOf_contextOf (c : Context) : NoCommand (rowsOf c) := by
  cases c
  case ac =>
    unfold rowsOf acRows
    exact ((((((noCommand_controlRows.append noCommand_acRows2to7).append noCommand_acRows8to10).append
      noCommand_acRows12).append noCommand_acRows13).append noCommand_acRows14).append noCommand_acRows15).append
      noCommand_acRows16
  case dcShared => exact noCommand_dcSharedRows
  case dcLuma => exact noCommand_dcLumaRows
  case dcChroma => exact noCommand_dcChromaRows
  case acTitle => exact NoCommand.cons .ac (by decide) (fun _ => rfl) NoCommand.nil
  case codeFirst | codeLater | command => intro r h; cases h

/-- A codeword the decoder finds is no host command. -/
theorem decodeCodeword_contextOf {c : Context} {w : Bits} {i : Instr} {n : Nat}
    (h : decodeCodeword c w = .found i n) : contextOf i ≠ .command := by
  obtain ⟨r, hr, operand, _, _, _, rfl, _⟩ := classifyRows_found h
  exact rowsOf_contextOf c r hr operand

/-- A packed code is no host command. -/
theorem decodePacked_contextOf (first : Bool) (w : Half) : contextOf (decodePacked first w) ≠ .command := by
  unfold decodePacked
  split
  · exact fun h => nomatch (show Context.codeFirst = .command from h)
  · split <;> exact fun h => nomatch (show Context.codeLater = .command from h)

/-- What the loop fetches is no host command. -/
theorem fetchStream_contextOf {s : State} {i : Instr} (h : fetchStream s = .ok (.instr i)) : contextOf i ≠ .command := by
  have def_ : ∀ cause c w, fetchDefault cause c w = .instr i → contextOf i ≠ .command := by
    intro cause c w h
    unfold fetchDefault at h
    split at h <;> simp only [Fetched.instr.injEq, reduceCtorEq] at h
    rename_i hf; subst h; exact decodeCodeword_contextOf hf
  have ctl : ∀ w n, classifyRows controlRows w = .found i n → contextOf i ≠ .command := by
    intro w n h
    obtain ⟨r, hr, operand, _, _, _, rfl, _⟩ := classifyRows_found h
    exact noCommand_controlRows r hr operand
  have dcl : ∀ t w, fetchDcLiteral t w ≠ .instr i := by
    intro t w h
    unfold fetchDcLiteral at h
    split at h
    · cases h
    · split at h <;> cases h
  have dct : ∀ {α : Type} (found : Nat → α → Fetched) r w, (∀ n v, found n v ≠ .instr i) →
      fetchDcTitle found r w ≠ .instr i := by
    intro α found r w hf h
    unfold fetchDcTitle at h
    split at h
    · exact hf _ _ h
    · cases h
    · cases h
  have dif : ∀ c t w, fetchDcDiff s c t w = .instr i → contextOf i ≠ .command := by
    intro c t w h
    unfold fetchDcDiff at h
    split at h
    · exact absurd h (dct _ _ _ (by simp))
    · exact absurd h (dcl _ _)
    · exact def_ _ _ _ h
  have vl : ∀ t w, fetchVlcLiteral t w ≠ .instr i := by
    intro t w h
    unfold fetchVlcLiteral at h
    split at h
    · cases h
    · split at h <;> cases h
  have sup : ∀ t w, fetchAcSupplied t w = .instr i → contextOf i ≠ .command := by
    intro t w h
    unfold fetchAcSupplied at h
    split at h
    · simp only [Fetched.instr.injEq] at h; subst h; exact ctl _ _ ‹_›
    · split at h <;> cases h
    · exact absurd h (vl _ _)
  have esc : ∀ f run level w, fetchTitleEscape f run level w ≠ .instr i := by
    intro f run level w h
    unfold fetchTitleEscape at h
    split at h <;> cases h
  have ttl : ∀ t w, fetchAcTitle t w = .instr i → contextOf i ≠ .command := by
    intro t w h
    simp only [fetchAcTitle] at h
    split at h
    · simp only [Fetched.instr.injEq] at h; subst h; exact decodeCodeword_contextOf ‹_›
    all_goals
      repeat' split at h
      all_goals first
        | exact absurd h (vl _ _)
        | exact absurd h (esc _ _ _ _)
        | (simp only [reduceCtorEq] at h)
  unfold fetchStream at h
  split at h
  · simp only [Except.ok.injEq, Fetched.instr.injEq] at h; subst h; exact decodePacked_contextOf _ _
  · split at h
    · cases h
    · split at h
      · cases h
      · unfold fetchCodeword at h
        repeat' split at h
        all_goals simp only [Except.ok.injEq, reduceCtorEq] at h
        all_goals first | exact def_ _ _ _ h | exact sup _ _ h | exact ttl _ _ h | exact dif _ _ _ h | exact absurd h (dct _ _ _ (by simp))

/-- Inside an operation the loop's micro-step is the core's step. -/
theorem streamStep_eq_step {s : State} (h : s.running ≠ .idle) : streamStep s = step s := by
  simp only [step, if_neg h, streamStep, operationStep]
  cases hf : fetchStream s with
  | error f => rfl
  | ok f =>
    cases f <;> try rfl
    simp only [runFetched]
    exact execStream_eq_exec (fetchStream_contextOf hf) s

/-- The loop at a state between operations. -/
theorem runLoop_idle (n : Nat) {s : State} (h : s.running = .idle) : runLoop n s = .next s := by
  cases n <;> simp [runLoop, h]

/-- The loop inside an operation: one step, then the rest. -/
theorem runLoop_succ (n : Nat) {s : State} (h : s.running ≠ .idle) :
    runLoop (n + 1) s = match step s with
      | .next t => runLoop n t
      | .fault f => .fault f
      | .refused r => .refused r := by
  rw [runLoop, if_neg h, streamStep_eq_step h]
  cases step s <;> rfl

end Sys2Proof.Machine
end

