-- ==== Sys2Proof/Tests/Slice0.lean ====
section
/-! SUPPORT. The model's own tests: ill-formed terms that the checks refuse, the decoding of every instruction from a word
written out from the spec's encoding of it, single steps on the vectors of 95_test_vectors.md, and for every statement
with hypotheses a concrete state that meets them. -/

namespace Sys2Proof.Machine.Tests

/-! ## Ill-formed terms -/

theorem test_wf_later_code_is_not_eob : (Instr.mdecAc 63#6 512#10).wellFormed = false := by decide
theorem test_wf_width : (Instr.configure 2147483648 16 .int false .nearest).wellFormed = false := by decide
theorem test_wf_height : (Instr.configure 16 (-2147483649) .int false .nearest).wellFormed = false := by decide
theorem test_wf_table_length : (Instr.setQuant (List.replicate 63 0)).wellFormed = false := by decide
theorem test_wf_table_entry : (Instr.setQuant (2147483648 :: List.replicate 63 0)).wellFormed = false := by decide
theorem test_wf_rgb_length : (Instr.readRgb 18446744073709551616 0 1).wellFormed = false := by decide
theorem test_wf_rgb_offset : (Instr.readRgb 0 18446744073709551616 1).wellFormed = false := by decide
theorem test_wf_rgb_stride : (Instr.readRgb 0 0 18446744073709551616).wellFormed = false := by decide
theorem test_wf_yuv_length : (Instr.readYcbcr420 18446744073709551616 .console).wellFormed = false := by decide
theorem test_wf_good :
    ((Instr.mdecAc 63#6 511#10).wellFormed && (Instr.setQuant (List.replicate 64 256)).wellFormed) = true := by decide

/-! ## Words written out from the spec -/

/-- Every word, given with its length, decodes to its instruction and nothing is left. -/
def wordsDecode (c : Context) (words : List (Nat × Nat × Instr)) : Bool :=
  words.all (fun w => decodeCodeword c (bitsOfNat w.1 w.2.1) == .found w.2.2 w.1)

/-- The VLC codewords of 2 to 7 bits before the sign (30_encoding.md R163), signs alternating. -/
theorem test_decode_vlc_2to7 : wordsDecode .ac
    [(3, 0b110, .acR0M1 false), (4, 0b0111, .acR1M1 true), (5, 0b01000, .acR0M2 false), (5, 0b01011, .acR2M1 true),
     (6, 0b001010, .acR0M3 false), (6, 0b001111, .acR3M1 true), (6, 0b001100, .acR4M1 false),
     (7, 0b0001101, .acR1M2 true), (7, 0b0001110, .acR5M1 false), (7, 0b0001011, .acR6M1 true),
     (7, 0b0001000, .acR7M1 false), (8, 0b00001101, .acR0M4 true), (8, 0b00001000, .acR2M2 false),
     (8, 0b00001111, .acR8M1 true), (8, 0b00001010, .acR9M1 false)] = true := by decide

/-- The VLC codewords of 8 to 10 bits before the sign (30_encoding.md R163), signs alternating. -/
theorem test_decode_vlc_8to10 : wordsDecode .ac
    [(9, 0b001001100, .acR0M5 false), (9, 0b001000011, .acR0M6 true), (9, 0b001001010, .acR1M3 false),
     (9, 0b001001001, .acR3M2 true), (9, 0b001001110, .acR10M1 false), (9, 0b001000111, .acR11M1 true),
     (9, 0b001000100, .acR12M1 false), (9, 0b001000001, .acR13M1 true), (11, 0b00000010100, .acR0M7 false),
     (11, 0b00000011001, .acR1M4 true), (11, 0b00000010110, .acR2M3 false), (11, 0b00000011111, .acR4M2 true),
     (11, 0b00000010010, .acR5M2 false), (11, 0b00000011101, .acR14M1 true), (11, 0b00000011010, .acR15M1 false),
     (11, 0b00000010001, .acR16M1 true)] = true := by decide

/-- The VLC codewords of 12 bits before the sign (30_encoding.md R163), signs alternating. -/
theorem test_decode_vlc_12 : wordsDecode .ac
    [(13, 0b0000000111010, .acR0M8 false), (13, 0b0000000110001, .acR0M9 true),
     (13, 0b0000000100110, .acR0M10 false), (13, 0b0000000100001, .acR0M11 true),
     (13, 0b0000000110110, .acR1M5 false), (13, 0b0000000101001, .acR2M4 true),
     (13, 0b0000000111000, .acR3M3 false), (13, 0b0000000100101, .acR4M3 true),
     (13, 0b0000000111100, .acR6M2 false), (13, 0b0000000101011, .acR7M2 true),
     (13, 0b0000000100010, .acR8M2 false), (13, 0b0000000111111, .acR17M1 true),
     (13, 0b0000000110100, .acR18M1 false), (13, 0b0000000110011, .acR19M1 true),
     (13, 0b0000000101110, .acR20M1 false), (13, 0b0000000101101, .acR21M1 true)] = true := by decide

/-- The VLC codewords of 13 bits before the sign (30_encoding.md R163), signs alternating. -/
theorem test_decode_vlc_13 : wordsDecode .ac
    [(14, 0b00000000110100, .acR0M12 false), (14, 0b00000000110011, .acR0M13 true),
     (14, 0b00000000110000, .acR0M14 false), (14, 0b00000000101111, .acR0M15 true),
     (14, 0b00000000101100, .acR1M6 false), (14, 0b00000000101011, .acR1M7 true),
     (14, 0b00000000101000, .acR2M5 false), (14, 0b00000000100111, .acR3M4 true),
     (14, 0b00000000100100, .acR5M3 false), (14, 0b00000000100011, .acR9M2 true),
     (14, 0b00000000100000, .acR10M2 false), (14, 0b00000000111111, .acR22M1 true),
     (14, 0b00000000111100, .acR23M1 false), (14, 0b00000000111011, .acR24M1 true),
     (14, 0b00000000111000, .acR25M1 false), (14, 0b00000000110111, .acR26M1 true)] = true := by decide

/-- The VLC codewords of 14 bits before the sign (30_encoding.md R163), signs alternating. -/
theorem test_decode_vlc_14 : wordsDecode .ac
    [(15, 0b000000000111110, .acR0M16 false), (15, 0b000000000111101, .acR0M17 true),
     (15, 0b000000000111010, .acR0M18 false), (15, 0b000000000111001, .acR0M19 true),
     (15, 0b000000000110110, .acR0M20 false), (15, 0b000000000110101, .acR0M21 true),
     (15, 0b000000000110010, .acR0M22 false), (15, 0b000000000110001, .acR0M23 true),
     (15, 0b000000000101110, .acR0M24 false), (15, 0b000000000101101, .acR0M25 true),
     (15, 0b000000000101010, .acR0M26 false), (15, 0b000000000101001, .acR0M27 true),
     (15, 0b000000000100110, .acR0M28 false), (15, 0b000000000100101, .acR0M29 true),
     (15, 0b000000000100010, .acR0M30 false), (15, 0b000000000100001, .acR0M31 true)] = true := by decide

/-- The VLC codewords of 15 bits before the sign (30_encoding.md R163), signs alternating. -/
theorem test_decode_vlc_15 : wordsDecode .ac
    [(16, 0b0000000000110000, .acR0M32 false), (16, 0b0000000000101111, .acR0M33 true),
     (16, 0b0000000000101100, .acR0M34 false), (16, 0b0000000000101011, .acR0M35 true),
     (16, 0b0000000000101000, .acR0M36 false), (16, 0b0000000000100111, .acR0M37 true),
     (16, 0b0000000000100100, .acR0M38 false), (16, 0b0000000000100011, .acR0M39 true),
     (16, 0b0000000000100000, .acR0M40 false), (16, 0b0000000000111111, .acR1M8 true),
     (16, 0b0000000000111100, .acR1M9 false), (16, 0b0000000000111011, .acR1M10 true),
     (16, 0b0000000000111000, .acR1M11 false), (16, 0b0000000000110111, .acR1M12 true),
     (16, 0b0000000000110100, .acR1M13 false), (16, 0b0000000000110011, .acR1M14 true)] = true := by decide

/-- The VLC codewords of 16 bits before the sign (30_encoding.md R163), signs alternating. -/
theorem test_decode_vlc_16 : wordsDecode .ac
    [(17, 0b00000000000100110, .acR1M15 false), (17, 0b00000000000100101, .acR1M16 true),
     (17, 0b00000000000100010, .acR1M17 false), (17, 0b00000000000100001, .acR1M18 true),
     (17, 0b00000000000101000, .acR6M3 false), (17, 0b00000000000110101, .acR11M2 true),
     (17, 0b00000000000110010, .acR12M2 false), (17, 0b00000000000110001, .acR13M2 true),
     (17, 0b00000000000101110, .acR14M2 false), (17, 0b00000000000101101, .acR15M2 true),
     (17, 0b00000000000101010, .acR16M2 false), (17, 0b00000000000111111, .acR27M1 true),
     (17, 0b00000000000111100, .acR28M1 false), (17, 0b00000000000111011, .acR29M1 true),
     (17, 0b00000000000111000, .acR30M1 false), (17, 0b00000000000110111, .acR31M1 true)] = true := by decide

/-- The luma DC codewords (42_entropy_dc.md R310 to R318). -/
theorem test_decode_dc_luma : wordsDecode .dcLuma
    [(3, 0b100, .dcDiffYS0), (3, 0b001, .dcDiffYS1 1#1), (4, 0b0111, .dcDiffYS2 3#2), (6, 0b101101, .dcDiffYS3 5#3),
     (7, 0b1101001, .dcDiffYS4 9#4), (9, 0b111010001, .dcDiffYS5 17#5), (11, 0b11110100001, .dcDiffYS6 33#6),
     (13, 0b1111101000001, .dcDiffYS7 65#7), (15, 0b111111010000001, .dcDiffYS8 129#8)] = true := by decide

/-- The chroma DC codewords (42_entropy_dc.md R320 to R328). -/
theorem test_decode_dc_chroma : wordsDecode .dcChroma
    [(2, 0b00, .dcDiffCS0), (3, 0b011, .dcDiffCS1 1#1), (4, 0b1011, .dcDiffCS2 3#2), (6, 0b110101, .dcDiffCS3 5#3),
     (8, 0b11101001, .dcDiffCS4 9#4), (10, 0b1111010001, .dcDiffCS5 17#5), (12, 0b111110100001, .dcDiffCS6 33#6),
     (14, 0b11111101000001, .dcDiffCS7 65#7), (16, 0b1111111010000001, .dcDiffCS8 129#8)] = true := by decide

/-- The shared DC field (30_encoding.md R158; 95_test_vectors.md 2.4). -/
theorem test_decode_dc_shared : wordsDecode .dcShared
    [(10, 0b0000000111, .dcShared 7#10), (10, 0b1000000000, .dcShared 512#10)] = true := by decide

/-- The end of block and the escape (30_encoding.md R160; 95_test_vectors.md 2.6). -/
theorem test_decode_eob_escape : wordsDecode .ac
    [(2, 0b10, .acEob), (22, 0b0000010000111111111011, .acEscape 3#6 0x3FB#10),
     (22, 0b0000011111100000000001, .acEscape 62#6 1#10)] = true := by decide

/-- The packed codes (30_encoding.md R150, R151, R181; 95_test_vectors.md 2.1): 0xFE00 first in its block is a DC code. -/
theorem test_decode_packed :
    decodePacked true 0x0807#16 = .mdecDc 2#6 7#10 ∧ decodePacked true 0xFE00#16 = .mdecDc 63#6 512#10 ∧
    decodePacked false 0xFE00#16 = .mdecEob ∧ decodePacked false 0x03FF#16 = .mdecAc 0#6 0x3FF#10 ∧
    decodePacked false 0xFC00#16 = .mdecAc 63#6 0#10 := by decide

/-- The host commands (47_host_interface.md R658; operands as in log 27). -/
theorem test_decode_commands :
    decodeCommand [1#8, 16#8, 0#8, 0#8, 0#8, 32#8, 1#8, 0#8, 0#8, 1#8, 0#8, 0#8, 0#8]
      = .ok (.configure 16 288 .float false .nearest) ∧
    decodeCommand [3#8, 0xAA#8, 0xBB#8] = .ok (.loadFrame [0xAA#8, 0xBB#8]) ∧
    decodeCommand [4#8] = .ok .readCode ∧ decodeCommand [5#8] = .ok .decodeFrame ∧
    decodeCommand (6#8 :: ([0#8, 1#8] ++ List.replicate 6 0#8 ++ [5#8] ++ List.replicate 7 0#8 ++ [16#8] ++
      List.replicate 7 0#8)) = .ok (.readRgb 256 5 16) ∧
    decodeCommand (7#8 :: ([0x80#8, 1#8] ++ List.replicate 6 0#8 ++ [1#8])) = .ok (.readYcbcr420 384 .rec601) ∧
    decodeCommand [8#8] = .ok .queryStatus := ⟨rfl, rfl, rfl, rfl, rfl, rfl, rfl⟩

theorem test_decode_set_quant :
    decodeCommand (2#8 :: (List.replicate 256 0xFF#8)) = .ok (.setQuant (List.replicate 64 (-1))) := rfl

/-- The reserved ids are refused by name (47_host_interface.md R658). -/
theorem test_decode_reserved :
    decodeCommand [0#8] = .error (.reservedId 0#8) ∧ decodeCommand [9#8] = .error (.reservedId 9#8) ∧
    decodeCommand [255#8] = .error (.reservedId 255#8) ∧ decodeCommand [] = .error .empty ∧
    decodeCommand [4#8, 0#8] = .error (.badOperands 4#8) := ⟨rfl, rfl, rfl, rfl, rfl⟩

/-- Cut and unmatched bits (95_test_vectors.md 2.5, 2.6). -/
theorem test_decode_cut :
    decodeCodeword .ac [b1] = .needMore ∧ decodeCodeword .ac [b1, b1] = .needMore ∧
    decodeCodeword .ac (List.replicate 11 b0) = .needMore ∧ decodeCodeword .ac (List.replicate 12 b0) = .unmatched ∧
    decodeCodeword .dcChroma (List.replicate 4 b1) = .needMore ∧
    decodeCodeword .dcChroma (List.replicate 9 b1) = .unmatched ∧
    decodeCodeword .dcLuma (List.replicate 7 b1) = .unmatched := by decide

/-! ## Single steps -/

/-- What a result's next state satisfies. -/
def nextIs (r : Result) (p : State → Bool) : Bool :=
  match r with
  | .next t => p t
  | .fault _ | .refused _ => false

theorem exists_of_nextIs {r : Result} {p : State → Bool} (h : nextIs r p = true) : ∃ t, r = .next t ∧ p t = true := by
  cases r with
  | next t => exact ⟨t, rfl, h⟩
  | fault f => cases h
  | refused f => cases h

/-- The state in which a codeword of a context is read next, of these bits and no more. -/
def reading (c : Context) (bits : Bits) : State :=
  { placeCodeword c (bytesOfBits ((bits.length + 15) / 16) bits) State.reset with streamBits := bits.length }

/-- The emitted code of a result. -/
def emits (r : Result) (w : Half) (vpos : Nat) : Bool :=
  nextIs r (fun t => t.emitted.map (fun e => e.code.pack) == some w && t.vpos == vpos)

/-- 43_entropy_ac.md R380 and R366, one VLC codeword of each sign. -/
theorem test_vlc_positive : emits (step (reading .ac (bitsOfNat 3 0b110))) 0x0001#16 1 = true := by decide
theorem test_vlc_negative : emits (step (reading .ac (bitsOfNat 16 0b0000000000100001))) 0x03D8#16 1 = true := by decide
theorem test_vlc_run : emits (step (reading .ac (bitsOfNat 17 0b00000000000110110))) 0x7C01#16 32 = true := by decide

/-- 43_entropy_ac.md R362's example. -/
theorem test_escape : emits (step (reading .ac (bitsOfNat 22 0b0000010000111111111011))) 0x0FFB#16 4 = true := by
  decide

/-- 95_test_vectors.md 2.6: the escape (63, 0) fails the run check first; (2, 0) is ZERO_ESCAPE with its run. -/
theorem test_escape_errors :
    nextIs (step (reading .ac (bitsOfNat 22 0b0000011111110000000000))) (fun t =>
      t.status.errCause == some .runOverflow && t.bitPos == 22 && t.vpos == 0) = true ∧
    nextIs (step (reading .ac (bitsOfNat 22 0b0000010000100000000000))) (fun t =>
      t.status.errCause == some .zeroEscape && (t.status.errCtx.bind (fun c => c.value)) == some (.number 2)) = true := by
  decide

/-- 43_entropy_ac.md R360: the end of block ends the block. -/
theorem test_eob : nextIs (step (reading .ac [b1, b0])) (fun t =>
    t.emitted.map (fun e => e.code.pack) == some 0xFE00#16 && t.trk == ⟨0, .cb, true, 0, 2, 1, 0⟩) = true := by decide

/-- 42_entropy_dc.md R300 at the smallest DC. -/
theorem test_shared_dc : emits (step (reading .dcShared (bitsOfNat 10 0b1000000000))) 0x0600#16 0 = true := by decide

/-- 42_entropy_dc.md R303's example: luma `101|110` is delta 6, DC 24. -/
theorem test_diff_dc_luma : nextIs (step (reading .dcLuma (bitsOfNat 6 0b101110))) (fun t =>
    t.emitted.map (fun e => e.code.pack) == some 0x0418#16 && t.prevDc == ⟨0, 0, 24⟩) = true := by decide

/-- 95_test_vectors.md 2.5: chroma delta -255 is DC_RANGE with -1020, the predictor stands. -/
theorem test_diff_dc_range : nextIs (step (reading .dcChroma (bitsOfNat 16 0b1111111000000000))) (fun t =>
    t.status.errCause == some .dcRange && (t.status.errCtx.bind (fun c => c.value)) == some (.number (-1020)) &&
    t.prevDc == ⟨0, 0, 0⟩ && t.bitPos == 16) = true := by decide

/-- 95_test_vectors.md 2.5, chroma: sizes 0, 1, 2 and 7. -/
theorem test_diff_dc_chroma :
    emits (step (reading .dcChroma [b0, b0])) 0x0400#16 0 = true ∧
    emits (step (reading .dcChroma [b0, b1, b0])) 0x07FC#16 0 = true ∧
    emits (step (reading .dcChroma [b1, b0, b1, b1])) 0x040C#16 0 = true ∧
    emits (step (reading .dcChroma (List.replicate 6 b1 ++ [b0] ++ List.replicate 7 b1))) 0x05FC#16 0 = true := by
  decide

/-- 95_test_vectors.md 2.6: a stream that ends inside a codeword is END_OF_STREAM and takes nothing. -/
theorem test_end_of_stream : nextIs (step (reading .ac [b1, b1])) (fun t =>
    t.status.errKind == .endOfStream && t.status.errCause == none && t.bitPos == 0 && t.running == .idle) = true := by
  decide

/-- A code that waits for the consumer. -/
def waiting (op : Running) (merge : Bool) (c : Code) (first : Bool) : State :=
  let s := placePacked 0x0000#16 State.reset
  { s with
    running := op
    frameMode := if op = .decodeFrame then .pixels else .codes
    cfg := { s.cfg with filterMerge := merge }
    trk := if first then s.trk else s.trk.advanceCode
    emitted := some ⟨c, 0, .cr, first, if first then 0 else 1, 0⟩
    vpos := if first then 0 else c.top6.toNat + 1
    blkQscale := 3#6 }

/-- 44_filter.md R503's example: (2, 0) is held back, then (1, 5) is returned as (4, 5). -/
theorem test_filter_merges :
    nextIs (step (waiting .readCode true ⟨2#6, 0#10⟩ false)) (fun t =>
      t.pendRun == some 3 && t.degenCount == 1 && t.status.degenCount == 1 && t.running == .readCode) = true ∧
    nextIs (step { waiting .readCode true ⟨1#6, 5#10⟩ false with pendRun := some 3 }) (fun t =>
      t.reply == some (.code 0x1005#16 false) && t.pendRun == none) = true := by decide

/-- 43_entropy_ac.md R370 and R366: a title's row (code, run, magnitude) takes a sign bit, unless the entry has signs of
its own; 60_exceptions.md R702: bits that begin none record themselves. -/
theorem test_title_vlc :
    fetchVlcLiteral (titleCodewords (.signBit [⟨[b0, b1], 2#6, 3#9⟩])) [b0, b1, b1, b0]
      = .literalAc 3 2#6 0x3FD#10 false ∧
    fetchVlcLiteral (titleCodewords (.ownSigns [⟨[b0, b1], 2#6, 3#10⟩])) [b0, b1, b1, b0]
      = .literalAc 2 2#6 3#10 false ∧
    fetchVlcLiteral (titleCodewords (.signBit [⟨[b0, b1], 2#6, 3#9⟩])) [b1, b1]
      = .corrupt .unmatchedVlc (.bits [b1, b1]) := by decide

/-- 47_host_interface.md R653: a DC code (63, -512) is returned with flag 0, the end of block with flag 1. -/
theorem test_flags :
    nextIs (step (waiting .readCode false ⟨63#6, 512#10⟩ true)) (fun t => t.reply == some (.code 0xFE00#16 false)) = true ∧
    nextIs (step (waiting .readCode false ⟨63#6, 512#10⟩ false)) (fun t =>
      t.reply == some (.code 0xFE00#16 true)) = true := by decide

/-- 45_reconstruction.md R557's example: DC(3, 7) with `QT_ACTIVE[0] = 2` stores 14. -/
theorem test_reconstruct_dc : nextIs (step (waiting .decodeFrame false ⟨3#6, 7#10⟩ true)) (fun t =>
    t.blk[0] == .int 14 && t.nzCount == 1 && t.lastNz == some 0 && t.blkQscale == 3#6) = true := by decide

/-- 95_test_vectors.md program P2: (3, -5) after position 1 with qscale 3 stores -36 at matrix index 2. -/
theorem test_reconstruct_ac :
    nextIs (step { waiting .decodeFrame false ⟨3#6, 0x3FB#10⟩ false with rpos := 1 }) (fun t =>
      t.blk[2] == .int (-36) && t.rpos == 5 && t.lastNz == some 2) = true := by decide

/-- 95_test_vectors.md 2.8. -/
theorem test_dequantize :
    dequantAc .int 7 2#8 3 = .int 5 ∧ dequantAc .int (-1) 1#8 12 = .int (-1) ∧ dequantAc .int (-1) 1#8 4 = .int 0 ∧
    dequantAc .int (-512) 255#8 63 = .int (-1028160) ∧
    dequantAc .float 7 2#8 3 = .float 0x4015000000000000#64 := by decide

/-- A matrix of one coefficient, in units of `2 ^ -1074`. -/
def oneCoefficient (m : Nat) (c : Int) : List Int :=
  List.replicate m 0 ++ [c * (2 ^ 1074 : Nat)] ++ List.replicate (63 - m) 0

/-- 95_test_vectors.md program P2: the DC 14 gives 1.75 everywhere, -6 at index 8 gives -1.040280 at the top and -0.881907
in the next row. -/
theorem test_idct_float :
    idctNominal (oneCoefficient 0 14) 9 = 0x3FFC000000000000#64 ∧
    (idctScaled (oneCoefficient 8 (-6)) 0 * 1000000 + 1040280 * (2 ^ 1198 : Nat)).natAbs * 2 ≤ 2 ^ 1198 ∧
    (idctScaled (oneCoefficient 8 (-6)) 8 * 1000000 + 881907 * (2 ^ 1198 : Nat)).natAbs * 2 ≤ 2 ^ 1198 := by
  decide +kernel

/-- 46_color.md R610 on the vectors of 95_test_vectors.md 2.10. -/
theorem test_colour :
    consoleToRgb defaultParams (.int 10) (.int 0) (.int 20) = ⟨166#8, 124#8, 138#8⟩ ∧
    consoleToRgb defaultParams (.int 0) (.int (-100)) (.int (-100)) = ⟨0#8, 234#8, 0#8⟩ ∧
    consoleToRgb defaultParams (.int 2) (.int 2) (.int 2) = ⟨133#8, 128#8, 134#8⟩ := by
  decide +kernel

/-- 95_test_vectors.md 2.9. -/
theorem test_places :
    (⟨32#16, 48#16, .int, false, .nearest⟩ : Cfg).mbPixel 3 = (16, 0) ∧
    (⟨320#16, 240#16, .int, false, .nearest⟩ : Cfg).mbPixel 299 = (304, 224) ∧
    blockOrigin ⟨32#16, 48#16, .int, false, .nearest⟩ 5 .cb = (8, 16) ∧
    blockOrigin ⟨32#16, 48#16, .int, false, .nearest⟩ 5 .y4 = (24, 40) := by decide

/-- The core after CONFIGURE of a frame size. -/
def configured (width height : Half) : State :=
  afterConfigure ⟨width, height, .int, false, .nearest⟩ State.reset

/-- 95_test_vectors.md 2.2: good headers. -/
theorem test_headers :
    nextIs (exec (.loadFrame [0x40#8, 0x01#8, 0#8, 0x38#8, 5#8, 0#8, 3#8, 0#8]) (configured 16#16 16#16)) (fun t =>
      t.reply == some .ok && t.fmt == some .strDiff && t.hdr.rlcCount == some 0x0140#16 && t.hdr.qscaleL == some 5#6 &&
      t.hdr.body == some 8 && t.dstate == .active) = true ∧
    nextIs (exec (.loadFrame (List.replicate 40 0xFF#8 ++ [0#8, 0#8, 0#8, 0x38#8, 2#8, 0#8, 2#8, 0#8]))
      (configured 16#16 16#16)) (fun t =>
      t.fmt == some .prefix40 && t.hdr.body == some 48 && t.streamBits == 0) = true := by decide

/-- 95_test_vectors.md 2.2: the qscale is checked before the version, a wrong marker is no header, an odd byte is warned
of. -/
theorem test_bad_headers :
    nextIs (exec (.loadFrame [0#8, 0#8, 0#8, 0x38#8, 0#8, 0#8, 9#8, 0#8]) (configured 16#16 16#16)) (fun t =>
      t.status.errCause == some .zeroQscale && t.dstate == .failed) = true ∧
    nextIs (exec (.loadFrame [0#8, 0#8, 0#8, 0x37#8, 1#8, 0#8, 2#8, 0#8]) (configured 16#16 16#16)) (fun t =>
      t.status.errCause == some .unrecognizedHeader &&
      t.status.errCtx.bind (fun c => c.value) == some (.number 0x3700)) = true ∧
    nextIs (exec (.loadFrame [0#8, 0#8, 0#8, 0x38#8, 1#8, 0#8, 2#8, 0#8, 0xAA#8, 0xBB#8, 0xCC#8])
      (configured 16#16 16#16)) (fun t => t.status.warn.partialUnit && t.streamBits == 16) = true := by decide

/-- 95_test_vectors.md 2.11: commands refused at power-on and later. -/
theorem test_refused :
    nextIs (exec (.loadFrame []) State.reset) (fun t => t.reply == some .refused) = true ∧
    nextIs (exec (.configure 65521 16 .int false .nearest) State.reset) (fun t =>
      t.reply == some .refused && t.configured == false) = true ∧
    nextIs (exec .readCode (configured 16#16 16#16)) (fun t => t.reply == some .refused) = true ∧
    nextIs (exec (.readRgb 300 50 16) (configured 16#16 16#16)) (fun t => t.reply == some .refused) = true ∧
    nextIs (exec (.readYcbcr420 1000 .console) (configured 16#16 15#16)) (fun t => t.reply == some .refused) = true ∧
    nextIs (exec (.setQuant (256 :: List.replicate 63 1)) (configured 16#16 16#16)) (fun t =>
      t.reply == some .refused) = true := by decide

/-- QUERY_STATUS before the first CONFIGURE (70_reset_and_hazards.md R751). -/
theorem test_query : nextIs (exec .queryStatus State.reset) (fun t =>
    t.reply == some (.status ⟨false, none⟩)) = true := by decide

/-- The table words are placed where the next step fetches them (log 2): an escape, a packed code, a command. -/
theorem test_with_fetch_word :
    decodeTableWord 32 0xC0000000 = some (.acR0M1 false) ∧
    emits (step (State.reset.withFetchWord 32 0xC0000000)) 0x0001#16 1 = true ∧
    decodeTableWord 16 0xFE00 = some .mdecEob ∧
    nextIs (step (State.reset.withFetchWord 16 0xFE00)) (fun t => t.reply == some (.code 0xFE00#16 true)) = true ∧
    decodeTableWord 8 8 = some .queryStatus ∧
    nextIs (step (State.reset.withFetchWord 8 8)) (fun t => t.reply == some (.status ⟨false, none⟩)) = true := by decide
/-! ## Witnesses: states that meet the hypotheses of the statements

`invCheck` is a decidable condition that implies the invariant, for the concrete states below. -/

def planeCheck (s : State) (p : PlaneId) : Bool :=
  Memory.wf (zeroSample s.cfg.variant) (s.plane p) &&
    (s.plane p).all (fun e => decide (e.1 < p.stride s.cfg * p.rows s.cfg) && sampleKind s.cfg.variant e.2)

def emittedCheck (s : State) (e : Emitted) : Bool :=
  decide (e.mbIndex < s.cfg.mbCount) && decide (e.first = true ↔ e.codesInBlock = 0) && decide (e.start ≤ s.bitPos) &&
  decide (isTerminal e.first e.code = false →
    s.dstate = .active ∧ s.trk.mbIndex = e.mbIndex ∧ s.trk.role = e.role ∧ s.trk.firstOfBlock = false ∧
      s.trk.codesInBlock = e.codesInBlock + 1) &&
  decide (isTerminal e.first e.code = true →
    s.trk.mbIndex = (if e.role = .y4 then e.mbIndex + 1 else e.mbIndex) ∧ s.trk.role = e.role.next ∧
      s.trk.firstOfBlock = true) &&
  decide (e.first = true → s.vpos = 0) &&
  decide (e.first = false → e.code.isEob = false → s.pending + e.code.top6.toNat + 1 ≤ s.vpos) &&
  decide (s.running = .decodeFrame → e.first = false → e.code.isEob = false →
    s.rpos + s.pending + e.code.top6.toNat + 1 = s.vpos)

def invCheck (s : State) : Bool :=
  decide (1 ≤ s.cfg.width.toNat ∧ s.cfg.width.toNat ≤ s.params.maxDim.toNat ∧
    1 ≤ s.cfg.height.toNat ∧ s.cfg.height.toNat ≤ s.params.maxDim.toNat) &&
  s.configured && planeCheck s .y && planeCheck s .cb && planeCheck s .cr &&
  Memory.wf none s.outRgb && Memory.wf none s.outYuv &&
  decide (∀ i : Fin 64, sampleKind s.cfg.variant s.blk[i] = true) &&
  decide (s.trk.totalMbs = s.trk.mbIndex ∧ s.trk.totalBlocks = 6 * s.trk.mbIndex + s.trk.role.index ∧
    (s.trk.firstOfBlock = true ↔ s.trk.codesInBlock = 0) ∧ s.trk.mbIndex ≤ s.cfg.mbCount ∧
    (s.trk.mbIndex = s.cfg.mbCount ↔ s.dstate = .done) ∧
    (s.dstate = .done → s.trk.role = .cr ∧ s.trk.firstOfBlock = true) ∧ s.bitPos ≤ s.streamBits ∧ s.vpos ≤ 63) &&
  decide (s.prevDc = ⟨0, 0, 0⟩ ∧ s.hdr.qscaleL ≠ some 0#6 ∧ s.hdr.qscaleC ≠ some 0#6 ∧
    s.hdr.acTable ≠ some .title) &&
  decide (s.dstate = .active ∨ s.dstate = .done →
    (s.fmt ≠ none ∧ s.hdr.qscaleL ≠ none ∧ s.hdr.qscaleC ≠ none ∧ s.hdr.dcMode ≠ none ∧ s.hdr.acTable ≠ none ∧
      s.hdr.body ≠ none) ∧ s.streamBits = 16 * ((s.inBuf.length - s.hdr.body.getD 0) / 2)) &&
  decide ((s.dstate = .failed ↔ s.status.errKind ≠ .none) ∧ (s.dstate = .failed → recordedReply s ≠ none) ∧
    (s.cfg.filterMerge = false → s.pendRun = none) ∧
    (s.emitted = none → s.pending ≤ s.vpos ∧ (s.trk.firstOfBlock = true → s.pendRun = none)) ∧ s.pending ≤ 63 ∧
    s.nzCount ≤ s.rpos + 1 ∧ (1 ≤ s.nzCount → s.lastNz ≠ none) ∧ s.rpos ≤ 63) &&
  decide ((s.running = .idle → s.emitted = none) ∧ (s.running = .readCode → s.frameMode = .codes) ∧
    (s.running = .decodeFrame → s.frameMode = .pixels) ∧
    (s.running ≠ .idle → s.emitted = none → s.dstate = .active) ∧
    (s.running ≠ .idle → s.dstate = .active ∨ s.dstate = .done) ∧
    (s.dstate = .active → s.frameMode = .pixels → s.running = .decodeFrame) ∧
    (s.dstate = .active → s.frameMode = .none → s.trk = Tracker.initial) ∧
    (s.running = .decodeFrame → s.emitted = none → s.trk.firstOfBlock = false → s.rpos + s.pending = s.vpos) ∧
    s.status.degenCount = s.degenCount ∧
    (s.running = .idle → s.dstate = .done ∨ s.dstate = .failed → 0 < s.degenCount →
      s.status.warn.degenerateCodes = true)) &&
  (match s.emitted with
    | none => true
    | some e => emittedCheck s e)

theorem plane_of_check {s : State} {p : PlaneId} (h : planeCheck s p = true) : PlaneInv s p := by
  simp only [planeCheck, Bool.and_eq_true, List.all_eq_true, decide_eq_true_eq] at h
  exact ⟨h.1, fun e he => (h.2 e he).1, fun e he => (h.2 e he).2⟩

theorem emitted_of_check {s : State} {e : Emitted} (h : emittedCheck s e = true) : EmittedInv s e := by
  simp only [emittedCheck, Bool.and_eq_true, decide_eq_true_eq] at h
  obtain ⟨⟨⟨⟨⟨⟨⟨h1, h2⟩, h3⟩, h4⟩, h5⟩, h6⟩, h7⟩, h8⟩ := h
  exact ⟨h1, h2, h3, h4, h5, h6, h7, h8⟩

theorem inv_of_check {s : State} (h : invCheck s = true) : s.Inv := by
  simp only [invCheck, Bool.and_eq_true, decide_eq_true_eq] at h
  obtain ⟨⟨⟨⟨⟨⟨⟨⟨⟨⟨⟨⟨⟨h1, h2⟩, h3⟩, h4⟩, h5⟩, h6⟩, h7⟩, h8⟩, h9⟩, h10⟩, h11⟩, h12⟩, h13⟩, h14⟩ := h
  obtain ⟨a1, a2, a3, a4, a5, a6, a7, a8⟩ := h9
  obtain ⟨b1, b2, b3, b4⟩ := h10
  obtain ⟨c1, c2, c3, c4, c5, c6, c7, c8⟩ := h12
  obtain ⟨d1, d2, d3, d4, d5, d6, d7, d8, d9, d10⟩ := h13
  exact
    { size := fun _ => h1
      unconfigured := fun h => by simp [h2] at h
      planeY := plane_of_check h3
      planeCb := plane_of_check h4
      planeCr := plane_of_check h5
      outRgb := h6
      outYuv := h7
      blk := h8
      totalMbs := a1
      totalBlocks := a2
      firstOfBlock := a3
      mbIndex := fun _ => ⟨a4, a5⟩
      doneRole := a6
      bitPos := a7
      vpos := a8
      prevDc := fun r => by cases r <;> simp [b1, PrevDc.get]
      noPrevDc := fun _ => b1
      qscale := ⟨b2, b3⟩
      header := fun h => (h11 h).1
      title := fun h => absurd h b4
      streamBits := fun h => (h11 h).2
      failed := c1
      recorded := c2
      noMerge := c3
      pending := c4
      pendingFit := c5
      nzCount := c6
      lastNz := c7
      rpos := c8
      idle := d1
      readCode := d2
      decodeFrame := d3
      reading := d4
      consuming := d5
      pixels := d6
      fresh := d7
      position := d8
      degenCount := d9
      degenerate := d10
      emitted := fun e he => emitted_of_check (by rw [he] at h14; exact h14) }

def readingAcCheck (s : State) : Bool :=
  decide (s.running ≠ .idle ∧ s.emitted = none ∧ s.dstate = .active ∧ s.fmt ≠ none ∧ s.hdr.body ≠ none ∧
    s.trk.firstOfBlock = false ∧ s.hdr.acTable = some .main)

theorem readingAc_of_check {s : State} (h : readingAcCheck s = true) : s.ReadingAc := by
  simp only [readingAcCheck, decide_eq_true_eq] at h
  obtain ⟨h1, h2, h3, h4, h5, h6, h7⟩ := h
  exact { running := h1, emitted := h2, active := h3, format := h4, body := h5, later := h6, table := h7 }

def readingDcCheck (s : State) (mode : DcMode) (q : BitVec 6) : Bool :=
  decide (s.running ≠ .idle ∧ s.emitted = none ∧ s.dstate = .active ∧ s.fmt ≠ none ∧ s.hdr.body ≠ none ∧
    s.trk.firstOfBlock = true ∧ s.hdr.dcMode = some mode ∧
    (if s.trk.role.isLuma then s.hdr.qscaleL else s.hdr.qscaleC) = some q)

theorem readingDc_of_check {s : State} {mode : DcMode} {q : BitVec 6} (h : readingDcCheck s mode q = true) :
    s.ReadingDc mode q := by
  simp only [readingDcCheck, decide_eq_true_eq] at h
  obtain ⟨h1, h2, h3, h4, h5, h6, h7, h8⟩ := h
  exact
    { running := h1, emitted := h2, active := h3, format := h4, body := h5, first := h6, scheme := h7, qscale := h8 }

/-- `context` answers this context. -/
def contextIs (s : State) (c : Context) : Bool :=
  match context s with
  | .ok d => d == c
  | .error _ => false

theorem context_of_check {s : State} {c : Context} (h : contextIs s c = true) : context s = .ok c := by
  unfold contextIs at h
  split at h
  · rename_i d hd; simp only [beq_iff_eq] at h; rw [hd, h]
  · cases h

theorem defaults_of_reset (s : State) (h : s.params = defaultParams) : s.DefaultTables := by
  refine ⟨?_, by rw [h]; rfl, by rw [h]; rfl, by rw [h]; rfl⟩
  rw [h]
  cases s.fmt with
  | none => rfl
  | some f => cases f <;> rfl

/-! ### Encodings and the step -/

theorem witness_codewords_decode : encode (.acEscape 63#6 512#10) = .codeword
    [b0, b0, b0, b0, b0, b1, b1, b1, b1, b1, b1, b1, b1, b0, b0, b0, b0, b0, b0, b0, b0, b0] := rfl

theorem witness_packed_codes_decode :
    (Instr.mdecAc 63#6 511#10).wellFormed = true ∧ encode (.mdecAc 63#6 511#10) = .packed 0xFDFF#16 := by decide

theorem witness_commands_decode :
    (Instr.readRgb 0 18446744073709551615 1).wellFormed = true ∧
    encode (.readYcbcr420 1 .rec601) = .request [7#8, 1#8, 0#8, 0#8, 0#8, 0#8, 0#8, 0#8, 0#8, 1#8] := ⟨by decide, rfl⟩

theorem witness_end_of_stream_iff : ∀ i n, decodeCodeword .ac [b1] ≠ .found i n := by
  intro i n h
  rw [show decodeCodeword .ac [b1] = .needMore from by decide] at h
  cases h

theorem witness_step_runs_the_codeword : ∃ s : State, s.DefaultTables ∧ s.emitted = none ∧ context s = .ok .ac ∧
    s.hdr.body = some 8 ∧ decodeCodeword .ac (peek s 8 window) = .found (.acR0M1 false) 3 :=
  ⟨reading .ac (bitsOfNat 3 0b110), defaults_of_reset _ rfl, rfl, context_of_check (by decide), rfl, by decide⟩

theorem witness_step_runs_the_packed_code :
    (waiting .readCode false ⟨1#6, 5#10⟩ false).running ≠ .idle ∧
    (waiting .readCode false ⟨1#6, 5#10⟩ false).emitted = some ⟨⟨1#6, 5#10⟩, 0, .cr, false, 1, 0⟩ := by decide

theorem witness_step_runs_the_request :
    State.reset.running = .idle ∧ State.reset.hostIn = [] ∧
    ({ State.reset with hostIn := [[8#8], [9#8]] } : State).hostIn = [8#8] :: [[9#8]] ∧
    decodeCommand [8#8] = .ok .queryStatus ∧ decodeCommand [9#8] = .error (.reservedId 9#8) :=
  ⟨rfl, rfl, rfl, rfl, rfl⟩

/-- The last bit of a window, at the end of the stream; the last unit of the buffer. -/
theorem witness_bit_reader : ∃ s : State, (2 : Nat) < 3 ∧ s.bitPos + 2 < s.streamBits ∧ s.streamBits = 3 ∧
    s.fmt = some .strShared ∧ 8 + 2 * 0 + 1 < s.inBuf.length ∧ s.inBuf.length = 10 :=
  ⟨reading .ac (bitsOfNat 3 0b110), by decide⟩

theorem witness_get_set_copy :
    (0 ≤ (63 : Int) ∧ (63 : Int) ≤ 63) ∧ (63 : Int) < 64 ∧ (-512 ≤ (-512 : Int) ∧ (-512 : Int) ≤ 511) ∧
    (511 : Int) < 512 := by decide

/-! ### Codewords -/

/-- The largest run of the table, to position 63. -/
theorem witness_vlc_codewords_complete : ∃ (w : VlcWord) (s : State), vlcWord? (.acR31M1 true) = some w ∧ s.ReadingAc ∧
    s.bitPos + w.codeBits + 1 ≤ s.streamBits ∧ s.vpos + w.run + 1 = 63 :=
  ⟨_, { reading .ac (bitsOfNat 17 0b00000000000110111) with vpos := 31 }, rfl, readingAc_of_check (by decide),
    by decide, by decide⟩

/-- The escape: 21 bits left; (63, 1) at position 0; a level of 0 that is not tolerated; (62, 1) to position 63; a level
of 0 that is tolerated. -/
theorem witness_escape_codeword :
    (∃ s : State, s.ReadingAc ∧ s.streamBits < s.bitPos + 22 ∧ s.streamBits = 21) ∧
    (∃ s : State, s.ReadingAc ∧ s.bitPos + 22 ≤ s.streamBits ∧ 63 < s.vpos + (63#6).toNat + 1) ∧
    (∃ s : State, s.ReadingAc ∧ s.bitPos + 22 ≤ s.streamBits ∧ s.vpos + (62#6).toNat + 1 ≤ 63 ∧
      (∀ f, s.fmt = some f → f ∉ s.params.zeroAcTolerant)) ∧
    (∃ s : State, s.ReadingAc ∧ s.bitPos + 22 ≤ s.streamBits ∧ s.vpos + (62#6).toNat + 1 = 63 ∧ 1#10 ≠ 0#10) ∧
    (∃ s : State, s.ReadingAc ∧ s.bitPos + 22 ≤ s.streamBits ∧ s.vpos + (2#6).toNat + 1 ≤ 63 ∧
      ∃ f, s.fmt = some f ∧ f ∈ s.params.zeroAcTolerant) :=
  ⟨⟨reading .ac (List.replicate 21 b0), readingAc_of_check (by decide), by decide, by decide⟩,
   ⟨reading .ac (List.replicate 22 b0), readingAc_of_check (by decide), by decide, by decide⟩,
   ⟨reading .ac (List.replicate 22 b0), readingAc_of_check (by decide), by decide, by decide, by
      intro f hf
      rw [show (reading .ac (List.replicate 22 b0)).params.zeroAcTolerant = [] from rfl]
      exact List.not_mem_nil⟩,
   ⟨reading .ac (List.replicate 22 b0), readingAc_of_check (by decide), by decide, by decide, by decide⟩,
   ⟨{ reading .ac (List.replicate 22 b0) with params := { defaultParams with zeroAcTolerant := [.strShared] } },
      readingAc_of_check (by decide), by decide, by decide, .strShared, rfl, by decide⟩⟩

/-- Run 0 at positions 63 and 62. -/
theorem witness_run_check :
    (∃ (w : AcWord) (s : State), acWord? (.acR0M1 false) = some w ∧ s.ReadingAc ∧ s.bitPos + w.bits ≤ s.streamBits ∧
      s.vpos + w.run.toNat + 1 = 64) ∧
    (∃ (w : AcWord) (s : State), acWord? (.acR0M1 false) = some w ∧ s.ReadingAc ∧ s.bitPos + w.bits ≤ s.streamBits ∧
      s.vpos + w.run.toNat + 1 = 63) :=
  ⟨⟨_, { reading .ac (bitsOfNat 3 0b110) with vpos := 63 }, rfl, readingAc_of_check (by decide), by decide, by decide⟩,
   ⟨_, { reading .ac (bitsOfNat 3 0b110) with vpos := 62 }, rfl, readingAc_of_check (by decide), by decide, by decide⟩⟩

theorem witness_eob_codeword :
    (∃ s : State, s.ReadingAc ∧ s.streamBits < s.bitPos + 2) ∧ (∃ s : State, s.ReadingAc ∧ s.bitPos + 2 = s.streamBits) :=
  ⟨⟨reading .ac [b1], readingAc_of_check (by decide), by decide⟩,
   ⟨reading .ac [b1, b0], readingAc_of_check (by decide), by decide⟩⟩

theorem witness_shared_dc_codeword :
    (∃ s : State, s.ReadingDc .shared 1#6 ∧ s.streamBits < s.bitPos + 10 ∧ s.streamBits = 9) ∧
    (∃ s : State, s.ReadingDc .shared 1#6 ∧ s.bitPos + 10 = s.streamBits) :=
  ⟨⟨reading .dcShared (List.replicate 9 b0), readingDc_of_check (by decide), by decide, by decide⟩,
   ⟨reading .dcShared (List.replicate 10 b0), readingDc_of_check (by decide), by decide⟩⟩

/-- Delta 255 from -509: 511, the largest DC. -/
theorem witness_diff_dc_codewords_complete : ∃ (w : DcWord) (s : State), dcWord? (.dcDiffYS8 255#8) = some w ∧
    s.ReadingDc .diff 1#6 ∧ w.context = (if s.trk.role.isLuma then .dcLuma else .dcChroma) ∧
    s.bitPos + w.bits ≤ s.streamBits ∧ s.prevDc.get s.trk.role + 4 * w.delta = 511 :=
  ⟨_, { reading .dcLuma (List.replicate 15 b1) with prevDc := ⟨0, 0, -509⟩ }, rfl, readingDc_of_check (by decide),
    by decide, by decide, by decide⟩

/-- Delta 255 from -508: 512; delta -255 from 507: -513. -/
theorem witness_diff_dc_out_of_range :
    (∃ (w : DcWord) (s : State), dcWord? (.dcDiffYS8 255#8) = some w ∧ s.ReadingDc .diff 1#6 ∧
      w.context = (if s.trk.role.isLuma then .dcLuma else .dcChroma) ∧ s.bitPos + w.bits ≤ s.streamBits ∧
      s.prevDc.get s.trk.role + 4 * w.delta = 512) ∧
    (∃ (w : DcWord) (s : State), dcWord? (.dcDiffCS8 0#8) = some w ∧ s.ReadingDc .diff 1#6 ∧
      w.context = (if s.trk.role.isLuma then .dcLuma else .dcChroma) ∧ s.bitPos + w.bits ≤ s.streamBits ∧
      s.prevDc.get s.trk.role + 4 * w.delta = -513) :=
  ⟨⟨_, { reading .dcLuma (List.replicate 15 b1) with prevDc := ⟨0, 0, -508⟩ }, rfl, readingDc_of_check (by decide),
    by decide, by decide, by decide⟩,
   ⟨_, { reading .dcChroma (List.replicate 16 b1) with prevDc := ⟨507, 0, 0⟩ }, rfl, readingDc_of_check (by decide),
    by decide, by decide, by decide⟩⟩

theorem witness_cut_codeword : ∃ (code : Bits) (s : State), encode (.acEscape 1#6 1#10) = .codeword code ∧
    context s = .ok (contextOf (.acEscape 1#6 1#10)) ∧ s.streamBits < s.bitPos + code.length ∧ s.streamBits = 21 :=
  ⟨_, reading .ac (List.replicate 21 b0), rfl, context_of_check (by decide), by decide, by decide⟩

/-- Eleven zeros begin a codeword, twelve do not. -/
theorem witness_no_codeword :
    (∃ s : State, s.DefaultTables ∧ s.emitted = none ∧ context s = .ok .ac ∧ s.hdr.body = some 8 ∧
      decodeCodeword .ac (peek s 8 window) = .needMore) ∧
    (∃ s : State, s.DefaultTables ∧ s.emitted = none ∧ context s = .ok .ac ∧ s.hdr.body = some 8 ∧
      decodeCodeword .ac (peek s 8 window) = .unmatched) :=
  ⟨⟨reading .ac (List.replicate 11 b0), defaults_of_reset _ rfl, rfl, context_of_check (by decide), rfl, by decide⟩,
   ⟨reading .ac (List.replicate 12 b0), defaults_of_reset _ rfl, rfl, context_of_check (by decide), rfl, by decide⟩⟩

theorem witness_twelve_zeros : ∃ s : State, s.ReadingAc ∧ s.DefaultTables ∧ s.hdr.body = some 8 ∧
    peek s 8 window = List.replicate 12 false ++ [b1] :=
  ⟨reading .ac (List.replicate 12 b0 ++ [b1]), readingAc_of_check (by decide), defaults_of_reset _ rfl, rfl, by decide⟩

/-! ### Codes -/

/-- A DC code (63, -512), and the end of block of the same word. -/
theorem witness_first_and_last_codes_are_returned :
    (∃ (e : Emitted) (s : State), s.running = .readCode ∧ s.emitted = some e ∧ e.first = true ∧ s.dstate = .active) ∧
    (∃ (e : Emitted) (s : State), s.running = .readCode ∧ s.emitted = some e ∧ e.first = false) :=
  ⟨⟨_, waiting .readCode true ⟨63#6, 512#10⟩ true, rfl, rfl, rfl, rfl⟩,
   ⟨_, waiting .readCode true ⟨63#6, 512#10⟩ false, rfl, rfl, rfl⟩⟩

/-- With nothing held back, and with 62 held back before the run 1: 63, the largest run. -/
theorem witness_later_code_is_returned :
    (∃ (e : Emitted) (s : State), s.running = .readCode ∧ s.emitted = some e ∧ e.first = false ∧ s.dstate = .active ∧
      5#10 ≠ 0#10 ∧ s.cfg.filterMerge = false) ∧
    (∃ (e : Emitted) (s : State), s.running = .readCode ∧ s.emitted = some e ∧ e.first = false ∧ s.dstate = .active ∧
      s.cfg.filterMerge = true ∧ s.pendRun = some 62 ∧ 62 + (1#6).toNat = 63) :=
  ⟨⟨_, waiting .readCode false ⟨1#6, 5#10⟩ false, rfl, rfl, rfl, rfl, by decide, rfl⟩,
   ⟨_, { waiting .readCode true ⟨1#6, 5#10⟩ false with pendRun := some 62 }, rfl, rfl, rfl, rfl, rfl, rfl, rfl⟩⟩

/-- Merging; passed in coefficient mode; passed in pixel mode to position 63. -/
theorem witness_degenerate_code_is_counted :
    (∃ (e : Emitted) (s : State), s.running ≠ .idle ∧ s.emitted = some e ∧ e.first = false ∧ s.dstate = .active ∧
      s.cfg.filterMerge = true) ∧
    (∃ (e : Emitted) (s : State), s.running = .readCode ∧ s.emitted = some e ∧ e.first = false ∧ s.dstate = .active ∧
      s.cfg.filterMerge = false) ∧
    (∃ (e : Emitted) (s : State), s.running = .decodeFrame ∧ s.emitted = some e ∧ e.first = false ∧
      s.dstate = .active ∧ s.cfg.filterMerge = false ∧ s.rpos + (62#6).toNat + 1 = 63) :=
  ⟨⟨_, waiting .readCode true ⟨2#6, 0#10⟩ false, by decide, rfl, rfl, rfl, rfl⟩,
   ⟨_, waiting .readCode false ⟨2#6, 0#10⟩ false, rfl, rfl, rfl, rfl, rfl⟩,
   ⟨_, waiting .decodeFrame false ⟨62#6, 0#10⟩ false, rfl, rfl, rfl, rfl, rfl, rfl⟩⟩

theorem witness_first_code_starts_the_block : ∃ (e : Emitted) (s : State), s.running = .decodeFrame ∧
    s.emitted = some e ∧ e.first = true ∧ s.dstate = .active :=
  ⟨_, waiting .decodeFrame false ⟨3#6, 7#10⟩ true, rfl, rfl, rfl, rfl⟩

/-- Run 62 to positions 63 and 64; with merging, 1 held back and run 61. -/
theorem witness_later_code_is_stored :
    (∃ (e : Emitted) (s : State), s.running = .decodeFrame ∧ s.emitted = some e ∧ e.first = false ∧ s.dstate = .active ∧
      s.cfg.filterMerge = false ∧ (63 : Fin 64).val = s.rpos + 62 + 1) ∧
    (∃ (e : Emitted) (s : State), s.running = .decodeFrame ∧ s.emitted = some e ∧ e.first = false ∧ s.dstate = .active ∧
      s.cfg.filterMerge = true ∧ s.pendRun.getD 0 + (61#6).toNat = 62 ∧ 63 < s.rpos + 62 + 1) :=
  ⟨⟨_, waiting .decodeFrame false ⟨62#6, 5#10⟩ false, rfl, rfl, rfl, rfl, rfl, rfl⟩,
   ⟨_, { waiting .decodeFrame true ⟨61#6, 5#10⟩ false with pendRun := some 1, rpos := 1 }, rfl, rfl, rfl, rfl, rfl,
     rfl, by decide⟩⟩

/-- The frame of the single-macroblock program of 95_test_vectors.md: six blocks of DC 0, qscale 1. -/
def dcOnlyFrame : List Byte :=
  [0x00#8, 0x00#8, 0x00#8, 0x38#8, 0x01#8, 0x00#8, 0x02#8, 0x00#8,
   0x20#8, 0x00#8, 0x00#8, 0x02#8, 0x02#8, 0x20#8, 0x20#8, 0x00#8, 0x00#8, 0x02#8]

/-- The state after a command that answers a next state. -/
def after (r : Result) (s : State) : State :=
  match r with
  | .next t => t
  | .fault _ | .refused _ => s

/-- The frame of `dcOnlyFrame` loaded into a core of one macroblock. -/
def loaded : State :=
  let s := configured 16#16 16#16
  after (exec (.loadFrame dcOnlyFrame) s) s

/-- DECODE_FRAME on it, its loop begun. -/
def decoding : State := { loaded with frameMode := .pixels, running := .decodeFrame }

theorem loaded_inv : loaded.Inv := inv_of_check (by decide)
theorem decoding_inv : decoding.Inv := inv_of_check (by decide)

/-- The end of block of the first block waits. -/
def atEndOfBlock : State :=
  let s := after (step decoding) decoding
  let s := after (step s) s
  after (step s) s

theorem witness_end_of_block_writes_the_block : ∃ e, atEndOfBlock.Inv ∧ atEndOfBlock.running = .decodeFrame ∧
    atEndOfBlock.emitted = some e ∧ e.first = false ∧ e.code = ⟨63#6, -512#10⟩ :=
  ⟨⟨⟨63#6, 512#10⟩, 0, .cr, false, 1, 10⟩, inv_of_check (by decide), by decide⟩

/-- The last block of the smallest frame, its last sample. -/
theorem witness_every_block_has_its_place :
    0 < (configured 1#16 1#16).cfg.mbCount ∧ (configured 1#16 1#16).cfg.mbCount = 1 := by decide

theorem witness_every_sample_is_in_one_block :
    PlaneId.Inside (configured 1#16 1#16).cfg .y 15 15 ∧ PlaneId.Inside (configured 1#16 1#16).cfg .cb 7 7 :=
  ⟨⟨by decide, by decide⟩, by decide, by decide⟩

/-- The coefficients 0, the smallest subnormal and -2^20, at the largest magnitude the statement takes. -/
theorem witness_float_idct_is_held_to_the_formula :
    defaultParams.floatIdct = .default ∧
    (List.replicate 62 0#64 ++ [1#64, 0xC130000000000000#64]).length = 64 ∧
    finiteUnits (List.replicate 62 0#64 ++ [1#64, 0xC130000000000000#64])
      = some (List.replicate 62 0 ++ [1, -(2 ^ 1094)]) ∧
    (-(2 ^ 1094) : Int).natAbs ≤ 2 ^ 1094 := by decide +kernel

/-- DECODE_FRAME of an empty bitstream fails at its first codeword. -/
theorem witness_error_zero_fills_the_rest : ∃ s t : State, s.Inv ∧ s.running = .decodeFrame ∧ s.emitted = none ∧
    step s = .next t ∧ t.dstate = .failed := by
  have h : nextIs (step { decoding with streamBits := 0, inBuf := dcOnlyFrame.take 8 })
      (fun t => t.dstate == .failed) = true := by decide
  obtain ⟨t, ht, hd⟩ := exists_of_nextIs h
  exact ⟨_, t, inv_of_check (by decide), rfl, by decide, ht, by simpa using hd⟩

/-! ### Commands -/

theorem witness_configure_resets_the_core : State.reset.running = .idle ∧ (1 : Int) ≤ 1 ∧
    (65520 : Int) ≤ State.reset.params.maxDim.toNat ∧ (Upsampler.nearest = .nearest) := by decide

/-- Each kind of illegal command: a size of 0 and of 65521, a kernel no parameter defines, a short table, an entry of
256, commands before CONFIGURE, READ_CODE without a frame and of a frame in pixel mode, DECODE_FRAME of a frame in
coefficient mode, a stride too small, an array one pixel too short, an odd height. -/
theorem witness_illegal_commands_are_refused :
    State.reset.running = .idle ∧ State.reset.configured = false ∧ (0 : Int) < 1 ∧
    (State.reset.params.maxDim.toNat : Int) < 65521 ∧ Kernel.bilinear ∉ State.reset.params.kernels ∧
    (List.replicate 63 (0 : Int)).length ≠ 64 ∧ (255 : Int) < 256 ∧
    (configured 16#16 16#16).dstate = .idle ∧
    { loaded with frameMode := .pixels }.frameMode = .pixels ∧ { loaded with frameMode := .codes }.frameMode ≠ .none ∧
    15 < (configured 16#16 16#16).cfg.width.toNat ∧ 255 < 0 + (16 - 1) * 16 + (configured 16#16 16#16).cfg.width.toNat ∧
    (configured 16#16 15#16).cfg.height.toNat % 2 = 1 ∧ (configured 16#16 15#16).running = .idle := by decide

theorem witness_set_quant_writes_qt : (configured 16#16 16#16).running = .idle ∧
    (configured 16#16 16#16).configured = true ∧ (List.replicate 64 (255 : Int)).length = 64 ∧
    (∀ v ∈ List.replicate 64 (255 : Int), 0 ≤ v ∧ v ≤ 255) := by decide

/-- A mainline header with these low bytes of qscale and version. -/
def headerOf (qscale version : Byte) : List Byte := [1#8, 2#8, 0#8, 0x38#8, qscale, 0#8, version, 0#8]

/-- The shared scheme, the differential scheme; qscale 63. -/
theorem witness_load_frame_mainline :
    (configured 16#16 16#16).configured = true ∧ (configured 16#16 16#16).running = .idle ∧
    1 ≤ (configured 16#16 16#16).cfg.width.toNat ∧ 1 ≤ (configured 16#16 16#16).cfg.height.toNat ∧
    8 ≤ (headerOf 63#8 2#8).length ∧ memRead16 (headerOf 63#8 2#8) 0 = some 0x0201#16 ∧
    memRead16 (headerOf 63#8 2#8) 2 = some 0x3800#16 ∧
    memRead16 (headerOf 63#8 2#8) 4 = some ((63#6).setWidth 16) ∧ memRead16 (headerOf 63#8 2#8) 6 = some 2#16 ∧
    memRead16 (headerOf 1#8 3#8) 4 = some ((1#6).setWidth 16) ∧ memRead16 (headerOf 1#8 3#8) 6 = some 3#16 ∧
    1#6 ≠ 0#6 := by decide

/-- The same header behind 40 bytes. -/
def prefixedOf (qscale version : Byte) : List Byte := List.replicate 40 0xFF#8 ++ headerOf qscale version

theorem witness_load_frame_prefix40 :
    48 ≤ (prefixedOf 63#8 2#8).length ∧ memRead16 (prefixedOf 63#8 2#8) 2 ≠ some 0x3800#16 ∧
    memRead16 (prefixedOf 63#8 2#8) 40 = some 0x0201#16 ∧ memRead16 (prefixedOf 63#8 2#8) 42 = some 0x3800#16 ∧
    memRead16 (prefixedOf 63#8 2#8) 44 = some ((63#6).setWidth 16) ∧
    memRead16 (prefixedOf 63#8 2#8) 46 = some 2#16 ∧ memRead16 (prefixedOf 1#8 3#8) 2 ≠ some 0x3800#16 ∧
    memRead16 (prefixedOf 1#8 3#8) 44 = some ((1#6).setWidth 16) ∧
    memRead16 (prefixedOf 1#8 3#8) 46 = some 3#16 := by decide

/-- qscale 0; qscale 64; qscale 63 with version 4; and qscale 64 behind 40 bytes. -/
theorem witness_load_frame_bad_header :
    8 ≤ (headerOf 0#8 2#8).length ∧ memRead16 (headerOf 0#8 2#8) 2 = some 0x3800#16 ∧
    memRead16 (headerOf 0#8 2#8) 4 = some 0#16 ∧
    memRead16 (headerOf 64#8 2#8) 4 = some 64#16 ∧ 63 < (64#16).toNat ∧
    memRead16 (headerOf 63#8 4#8) 4 = some 63#16 ∧ (63#16).toNat ≤ 63 ∧
    memRead16 (headerOf 63#8 4#8) 6 = some 4#16 ∧
    4#16 ∉ (configured 16#16 16#16).params.extraSharedVersions ∧
    48 ≤ (prefixedOf 64#8 2#8).length ∧ memRead16 (prefixedOf 64#8 2#8) 2 ≠ some 0x3800#16 ∧
    memRead16 (prefixedOf 64#8 2#8) 42 = some 0x3800#16 ∧ memRead16 (prefixedOf 64#8 2#8) 44 = some 64#16 ∧
    memRead16 (prefixedOf 64#8 2#8) 46 = some 2#16 := by decide

/-- An empty buffer; a buffer of 7 bytes with the marker; one of 48 bytes without. -/
theorem witness_load_frame_unrecognized :
    (configured 16#16 16#16).params.titleFormats = [] ∧
    ¬ 8 ≤ ([] : List Byte).length ∧ ¬ 8 ≤ [0#8, 0#8, 0#8, 0x38#8, 1#8, 0#8, 2#8].length ∧
    memRead16 (List.replicate 48 0#8) 2 ≠ some 0x3800#16 ∧
    memRead16 (List.replicate 48 0#8) 42 ≠ some 0x3800#16 := by decide

/-- A frame that is done, in coefficient mode. -/
def finished : State := { loaded with frameMode := .codes, dstate := .done, trk := ⟨1, .cr, true, 0, 12, 6, 1⟩ }

/-- A frame whose header was bad. -/
def rejected : State :=
  let s := configured 16#16 16#16
  after (exec (.loadFrame [0#8, 0#8, 0#8, 0x38#8, 0#8, 0#8, 2#8, 0#8]) s) s

theorem rejected_inv : rejected.Inv := inv_of_check (by decide)

theorem witness_read_code_after_the_end :
    (finished.Inv ∧ finished.running = .idle ∧ finished.configured = true ∧ finished.frameMode ≠ .pixels ∧
      finished.dstate = .done) ∧
    (rejected.Inv ∧ rejected.running = .idle ∧ rejected.configured = true ∧ rejected.frameMode ≠ .pixels ∧
      rejected.dstate = .failed) :=
  ⟨⟨inv_of_check (by decide), by decide⟩, rejected_inv, by decide⟩

theorem witness_decode_frame_after_bad_header :
    rejected.Inv ∧ rejected.running = .idle ∧ rejected.configured = true ∧ rejected.frameMode = .none ∧
    rejected.dstate = .failed := ⟨rejected_inv, by decide⟩

theorem witness_read_code_returns_the_dc :
    loaded.Inv ∧ loaded.running = .idle ∧ loaded.configured = true ∧ loaded.dstate = .active ∧
    loaded.frameMode ≠ .pixels ∧ loaded.trk.firstOfBlock = true ∧ loaded.hdr.dcMode = some .shared ∧
    (if loaded.trk.role.isLuma then loaded.hdr.qscaleL else loaded.hdr.qscaleC) = some 1#6 ∧
    ownDc loaded.params loaded.fmt = none ∧ loaded.hdr.body = some 8 ∧ loaded.bitPos + 10 ≤ loaded.streamBits ∧
    (peek loaded 8 window).take 10 = bitsOf 0#10 := ⟨loaded_inv, by decide⟩

theorem witness_decode_frame_of_dc_only_blocks :
    loaded.Inv ∧ loaded.frameMode = .none ∧ loaded.bitPos = 0 ∧ loaded.hdr.acTable = some .main ∧
    loaded.params.acVlcTable = none ∧ ownDc loaded.params loaded.fmt = none ∧ loaded.hdr.body = some 8 ∧
    DcOnlyStream loaded 8 (fun _ => 0#10) := by
  refine ⟨loaded_inv, by decide, by decide, by decide, by decide, by decide, by decide, by decide, fun k j hk hj => ?_⟩
  have h : ∀ k : Fin 6, ∀ j : Fin 12,
      some (streamBit loaded 8 (12 * k.val + j.val)) = (bitsOf 0#10 ++ [b1, b0])[j.val]? := by decide
  have hc : loaded.cfg.mbCount = 1 := by decide
  exact h ⟨k, by omega⟩ ⟨j, hj⟩

/-- The array is exactly long enough. -/
theorem witness_read_rgb_writes_the_pixels :
    (configured 2#16 2#16).running = .idle ∧ (configured 2#16 2#16).configured = true ∧
    Memory.wf none (configured 2#16 2#16).outRgb = true ∧ (configured 2#16 2#16).cfg.width.toNat ≤ 2 ∧
    5 + ((configured 2#16 2#16).cfg.height.toNat - 1) * 2 + (configured 2#16 2#16).cfg.width.toNat = 9 := by decide

/-- The upsampler after CONFIGURE with NEAREST; samples that clamp and samples that round, no channel at an integer; a
core of one pixel, written out by READ_RGB right after CONFIGURE. -/
theorem witness_nearest_and_the_default_conversion :
    (configured 16#16 16#16).cfg.upsampler = .nearest ∧
    (defaultParams.rgbConversion = .default ∧ (-(2 ^ 30) : Int).natAbs ≤ 2 ^ 30 ∧
      ((10000 * 10 + 14020 * 20 + 1285000) % 10000 : Int) ≠ 0 ∧
      ((10000 * 10 - 3437 * -7 - 7143 * 20 + 1285000) % 10000 : Int) ≠ 0 ∧
      ((10000 * 10 + 17720 * -7 + 1285000) % 10000 : Int) ≠ 0) ∧
    ∃ t u : State, State.reset.params.rgbConversion = .default ∧
      exec (.configure 1 1 .int false .nearest) State.reset = .next t ∧ t.reply = some .ok ∧
      exec (.readRgb 1 0 1) t = .next u ∧ u.reply = some .ok ∧ 0 < t.cfg.width.toNat ∧ 0 < t.cfg.height.toNat ∧
      Memory.wf none State.reset.outRgb = true :=
  ⟨by decide, ⟨rfl, by decide, by decide, by decide, by decide⟩,
    _, _, rfl, rfl, rfl, rfl, rfl, by decide, by decide, rfl⟩

/-- Also for `ReadRec601WritesTheConversion`: the array is exactly long enough. -/
theorem witness_read_ycbcr420_writes_the_planes :
    (configured 2#16 2#16).running = .idle ∧ (configured 2#16 2#16).configured = true ∧
    Memory.wf none (configured 2#16 2#16).outYuv = true ∧ (configured 2#16 2#16).cfg.width.toNat % 2 = 0 ∧
    (configured 2#16 2#16).cfg.height.toNat % 2 = 0 ∧
    (configured 2#16 2#16).cfg.width.toNat * (configured 2#16 2#16).cfg.height.toNat
      + 2 * ((configured 2#16 2#16).cfg.width.toNat / 2) * ((configured 2#16 2#16).cfg.height.toNat / 2) = 6 := by decide

theorem witness_query_status_reports :
    State.reset.running = .idle ∧ State.reset.configured = false ∧ loaded.running = .idle ∧
    loaded.configured = true := by decide

/-! ### Operations and invariants -/

theorem witness_operations_are_runs_of_steps :
    loaded.Inv ∧ loaded.running = .idle ∧ loaded.configured = true ∧ loaded.dstate = .active ∧
    loaded.frameMode ≠ .pixels ∧ loaded.frameMode = .none := ⟨loaded_inv, by decide⟩

/-- A result that is not a stop is its next state. -/
theorem next_of_check {r : Result} {s : State} (h : nextIs r (fun _ => true) = true) : r = .next (after r s) := by
  cases r with
  | next t => rfl
  | fault f => cases h
  | refused f => cases h

theorem witness_power_on : contextOf .readCode = .command ∧ Instr.readCode ≠ .queryStatus ∧
    ∀ w h v m u, Instr.readCode ≠ .configure w h v m u := ⟨rfl, by decide, fun _ _ _ _ _ h => by cases h⟩

/-- A step inside an operation, and one between operations: for `StepKeepsTheInvariant`, `NoStepStops` and
`EveryOperationEnds`. -/
theorem witness_step_keeps_the_invariant :
    (∃ t, decoding.Inv ∧ step decoding = .next t) ∧ (∃ t, loaded.Inv ∧ loaded.running = .idle ∧ step loaded = .next t) :=
  ⟨⟨_, decoding_inv, next_of_check (s := decoding) (by decide)⟩,
   ⟨_, loaded_inv, by decide, next_of_check (s := loaded) (by decide)⟩⟩

theorem witness_no_run_out_of_bounds : ∃ t, decoding.Inv ∧
    step decoding = .next t ∧ decoding.status.errCause ≠ some .runOutOfBounds :=
  ⟨_, decoding_inv, next_of_check (s := decoding) (by decide), by decide⟩

/-- READ_CODE of a failed frame. -/
theorem witness_errors_are_sticky : ∃ s t : State, s.Inv ∧ s.dstate = .failed ∧ step s = .next t ∧
    s.hostIn = [[4#8]] ∧ ([4#8] : List Byte).head? ≠ some 1#8 ∧ ([4#8] : List Byte).head? ≠ some 3#8 :=
  ⟨{ rejected with hostIn := [[4#8]] }, _, inv_of_check (by decide), by decide,
    next_of_check (s := rejected) (by decide), rfl, by decide, by decide⟩

/-- For `WhoWritesTheConfiguration`, `NothingIsRewound` and `WhoWritesTheImages`. -/
theorem witness_who_writes : ∃ t, exec .readCode loaded = .next t ∧ loaded.bitPos ≤ loaded.streamBits ∧
    loaded.running ≠ .decodeFrame :=
  ⟨_, next_of_check (s := loaded) (by decide), by decide, by decide⟩

theorem witness_codewords_leave_the_consumer_alone : ∃ t, encode (.dcShared 0#10) = .codeword (List.replicate 10 b0) ∧
    exec (.dcShared 0#10) decoding = .next t ∧ t.dstate ≠ .failed :=
  ⟨_, rfl, next_of_check (s := decoding) (by decide), by decide⟩

end Sys2Proof.Machine.Tests
end

/-! PROOFS. The bit reader (20_memory.md R100 to R112). -/

namespace Sys2Proof.Machine

/-! ## What `Peek` shows -/

/-- `Peek` shows the bits of the stream in their order, from `BITPOS` on (20_memory.md R110). -/
theorem getElem?_peek {s : State} {body n k : Nat} (hn : k < n) (hk : s.bitPos + k < s.streamBits) :
    (peek s body n)[k]? = some (streamBit s body (s.bitPos + k)) := by
  have hlt : k < min n (s.streamBits - s.bitPos) := by omega
  simp [peek, List.getElem?_range hlt]

/-! ## The units of the mainline bitstream -/

/-- No mainline format swaps the bytes of its units (20_memory.md R105). -/
theorem bigEndianUnits_mainline (p : Params) {fmt : Option Fmt}
    (h : fmt = some .strShared ∨ fmt = some .strDiff ∨ fmt = some .prefix40) : bigEndianUnits p fmt = false := by
  obtain rfl | rfl | rfl := h <;> rfl

/-- A mainline unit is the byte at its place below the byte after it. -/
theorem unitAt_mainline {s : State} (h : s.fmt = some .strShared ∨ s.fmt = some .strDiff ∨ s.fmt = some .prefix40)
    (body k : Nat) :
    unitAt s body k = s.inBuf.getD (body + 2 * k + 1) 0#8 ++ s.inBuf.getD (body + 2 * k) 0#8 := by
  simp [unitAt, bigEndianUnits_mainline s.params h]

/-- A 16-bit read inside the buffer answers its two bytes, the second above the first (20_memory.md R101). -/
theorem memRead16_of_lt {inBuf : List Byte} {addr : Nat} (h : addr + 1 < inBuf.length) :
    memRead16 inBuf addr = some (inBuf.getD (addr + 1) 0#8 ++ inBuf.getD addr 0#8) := by
  have h0 : addr < inBuf.length := by omega
  simp [memRead16, h, h0]

/-- Two bytes joined, as the number they spell. -/
theorem toNat_append_bytes (hi lo : Byte) : (hi ++ lo).toNat = lo.toNat + 256 * hi.toNat := by
  have hlo : lo.toNat < 2 ^ 8 := lo.isLt
  rw [BitVec.toNat_append, Nat.shiftLeft_eq, Nat.mul_comm, ← Nat.two_pow_add_eq_or_of_lt hlo]
  omega

/-- Settles O9: the length and the order of the bits are `Peek`'s own, and without a swap of bytes the unit is what the
16-bit little-endian read answers. -/
theorem bitReader : Obligations.BitReader := by
  intro s body n k
  refine ⟨peek_length s body n, getElem?_peek, fun hfmt hlen => ?_⟩
  rw [unitAt_mainline hfmt]
  exact ⟨memRead16_of_lt hlen, toNat_append_bytes _ _⟩

end Sys2Proof.Machine

/-! PROOFS. The coefficient primitive (40_mdec_code.md R200 to R203). -/

namespace Sys2Proof.Machine

/-! ## The word of a code -/

/-- The word of a code shows both of its fields (40_mdec_code.md R202). -/
@[simp] theorem Code.unpack_pack (c : Code) : Code.unpack c.pack = c := by
  simp only [Code.unpack, Code.pack, packWord, BitVec.extractLsb'_append_eq_left, BitVec.extractLsb'_append_eq_right]

/-- Every word is the word of the code it unpacks to (40_mdec_code.md R202). -/
@[simp] theorem Code.pack_unpack (w : Half) : (Code.unpack w).pack = w := by
  calc (Code.unpack w).pack = w.extractLsb' 10 6 ++ w.extractLsb' 0 10 := rfl
    _ = w.extractLsb' 0 (6 + 10) := BitVec.extractLsb'_append_extractLsb'_eq_extractLsb' rfl
    _ = w := BitVec.extractLsb'_eq_self

/-- `top6` stands above the ten bits of `bottom10`. -/
theorem Code.toNat_pack (c : Code) : c.pack.toNat = c.top6.toNat * 1024 + c.bottom10.toNat := by
  have hlow : c.bottom10.toNat < 2 ^ 10 := c.bottom10.isLt
  rw [Code.pack, packWord, BitVec.toNat_append, ← Nat.shiftLeft_add_eq_or_of_lt hlow, Nat.shiftLeft_eq]

/-! ## What get reads after set -/

/-- A value in the unsigned range of `top6` is written unchanged (40_mdec_code.md R201). -/
theorem Code.setTop6_of_mem {v : Int} (c : Code) (h0 : 0 ≤ v) (h63 : v ≤ 63) :
    ∃ d, c.setTop6 v = some d ∧ d.getTop6 = v ∧ d.getBottom10 = c.getBottom10 := by
  refine ⟨{ c with top6 := BitVec.ofInt 6 v }, if_pos ⟨h0, h63⟩, ?_, rfl⟩
  rw [Code.getTop6, BitVec.toNat_ofInt]
  omega

/-- A value outside the range of `top6` is refused (40_mdec_code.md R201). -/
theorem Code.setTop6_eq_none {v : Int} (c : Code) (h : v < 0 ∨ 63 < v) : c.setTop6 v = none :=
  if_neg (by omega)

/-- A value in the signed range of `bottom10` is written unchanged (40_mdec_code.md R201). -/
theorem Code.setBottom10_of_mem {v : Int} (c : Code) (hlo : -512 ≤ v) (hhi : v ≤ 511) :
    ∃ d, c.setBottom10 v = some d ∧ d.getBottom10 = v ∧ d.getTop6 = c.getTop6 :=
  ⟨{ c with bottom10 := BitVec.ofInt 10 v }, if_pos ⟨hlo, hhi⟩,
    BitVec.toInt_ofInt_eq_self (by decide) hlo (Int.lt_add_one_of_le hhi), rfl⟩

/-- A value outside the range of `bottom10` is refused (40_mdec_code.md R201). -/
theorem Code.setBottom10_eq_none {v : Int} (c : Code) (h : v < -512 ∨ 511 < v) : c.setBottom10 v = none :=
  if_neg (by omega)

/-! ## The end of block -/

/-- The two gets determine the code. -/
theorem Code.eq_iff_get {c d : Code} : c = d ↔ c.getTop6 = d.getTop6 ∧ c.getBottom10 = d.getBottom10 := by
  obtain ⟨t, b⟩ := c
  obtain ⟨t', b'⟩ := d
  simp only [Code.mk.injEq, Code.getTop6, Code.getBottom10, Nat.cast_inj, BitVec.toNat_inj, BitVec.toInt_inj]

/-- `isEOB` compares with the one end-of-block code (40_mdec_code.md R203). -/
theorem Code.isEob_iff_eq_eobCode {c : Code} : c.isEob = true ↔ c = eobCode := by
  obtain ⟨t, b⟩ := c
  simp only [Code.isEob, eobCode, Bool.and_eq_true, beq_iff_eq, Code.mk.injEq]

/-! ## The obligations -/

/-- Settles O10: the fields of a packed word are read back and joined again, and `isEOB` is equality with a code whose
gets are 63 and -512. -/
theorem packUnpackAndEob : Obligations.PackUnpackAndEob :=
  ⟨Code.unpack_pack, Code.pack_unpack, Code.toNat_pack, fun _ _ => rfl,
    fun _ => Code.isEob_iff_eq_eobCode.trans Code.eq_iff_get⟩

/-- Settles O11: each set answers by its range alone, and a value in range comes back from the get. -/
theorem getSetCopy : Obligations.GetSetCopy := fun c _ =>
  ⟨rfl, rfl, c.setTop6_of_mem, c.setTop6_eq_none, c.setBottom10_of_mem, c.setBottom10_eq_none, rfl⟩

end Sys2Proof.Machine

/-! PROOFS. The DC codewords (42_entropy_dc.md R300 to R306). -/

namespace Sys2Proof.Machine

/-! ## The first code of a block -/

/-- Where a DC codeword is read, `block_qscale` answers the qscale of the block (42_entropy_dc.md R301). -/
theorem State.ReadingDc.blockQscale_eq {s : State} {mode : DcMode} {q : BitVec 6} (h : s.ReadingDc mode q) :
    blockQscale s = some q := h.qscale

/-- A code emitted where a DC codeword is read does not end its block, whatever its bits (40_mdec_code.md R212). -/
theorem State.ReadingDc.isTerminal_eq {s : State} {mode : DcMode} {q : BitVec 6} (h : s.ReadingDc mode q) (c : Code) :
    isTerminal s.trk.firstOfBlock c = false := by
  rw [h.first, isTerminal_first]

/-! ## What a DC codeword does where it is read -/

/-- The shared DC codeword where it is read: cut short or taken, its field is never looked at
(42_entropy_dc.md R300). -/
theorem State.ReadingDc.exec_dcShared {s : State} {q : BitVec 6} (h : s.ReadingDc .shared q) (d : BitVec 10) :
    exec (.dcShared d) s =
      if s.streamBits < s.bitPos + 10 then .next (raiseEndOfStream s)
      else .next (emit s.bitPos ⟨q, d⟩ { s with bitPos := s.bitPos + 10, vpos := 0 }) :=
  calc exec (.dcShared d) s = dcSharedCodeword d s := rfl
    _ = _ := dcSharedCodeword_eq h.context_eq h.blockQscale_eq

/-- A differential DC codeword of the block's table, where it is read: cut short, out of range or emitted
(42_entropy_dc.md R303, R304). -/
theorem State.ReadingDc.exec_dcDiff {i : Instr} {w : DcWord} {s : State} {q : BitVec 6} (h : s.ReadingDc .diff q)
    (hw : dcWord? i = some w) (hc : w.context = if s.trk.role.isLuma then .dcLuma else .dcChroma) :
    exec i s =
      if s.streamBits < s.bitPos + w.bits then .next (raiseEndOfStream s)
      else if s.prevDc.get s.trk.role + 4 * w.delta < -512 ∨ 511 < s.prevDc.get s.trk.role + 4 * w.delta then
        .next (raiseCorruption .dcRange (.number (s.prevDc.get s.trk.role + 4 * w.delta)) s.bitPos
          { s with bitPos := s.bitPos + w.bits })
      else .next (emit s.bitPos ⟨q, BitVec.ofInt 10 (s.prevDc.get s.trk.role + 4 * w.delta)⟩
        { s with
          bitPos := s.bitPos + w.bits
          prevDc := s.prevDc.set (s.prevDc.get s.trk.role + 4 * w.delta) s.trk.role
          vpos := 0 }) := by
  have hctx : context s = .ok w.context := by rw [h.context_eq, hc]
  rw [Machine.exec_dcDiff hw, dcDiffCodeword_eq hctx (List.mem_singleton_self _) h.blockQscale_eq]

/-! ## The obligations -/

/-- Settles O18: with its bits in the stream and the reconstructed value out of range, the codeword raises DC_RANGE from
the state in which only `BITPOS` has moved, so that the predictors stand; the context of the error does not read
`BITPOS`. -/
theorem diffDcOutOfRange : Obligations.DiffDcOutOfRange := by
  intro i w q s hw hs hc hbits hrange
  have hexec : exec i s = .next (raiseCorruption .dcRange (.number (s.prevDc.get s.trk.role + 4 * w.delta)) s.bitPos
      { s with bitPos := s.bitPos + w.bits }) := by
    rw [hs.exec_dcDiff hw hc, if_neg (Nat.not_lt.mpr hbits), if_pos hrange]
  exact ⟨_, hexec, raiseCorruption_frameFails _ _ _ _⟩

/-- Settles O16: the codeword is its ten bits; it is cut short, or else its field and the qscale of the block are emitted
as a first code, which is never terminal, so that `d` needs no case of its own. -/
theorem sharedDcCodeword : Obligations.SharedDcCodeword := by
  refine ⟨fun d => rfl, fun d q s hs => ⟨fun hcut => ?_, fun hbits => ?_⟩⟩
  · have hexec : exec (.dcShared d) s = .next (raiseEndOfStream s) := by
      rw [hs.exec_dcShared d, if_pos hcut]
    exact ⟨_, hexec, raiseEndOfStream_frameFails s⟩
  · rw [hs.exec_dcShared d, if_neg (Nat.not_lt.mpr hbits)]
    exact congrArg Host.Outcome.next (emit_code (hs.isTerminal_eq ⟨q, d⟩))

end Sys2Proof.Machine

/-! PROOFS. The escape and the end of block (43_entropy_ac.md R353, R360, R362, R363). -/

namespace Sys2Proof.Machine

/-! ## The facts the two codewords rest on -/

/-- A format tolerates a zero-level escape when the parameter lists it (43_entropy_ac.md R363). -/
theorem zeroTolerant_iff {s : State} :
    zeroTolerant s = true ↔ ∃ f, s.fmt = some f ∧ f ∈ s.params.zeroAcTolerant := by
  cases hf : s.fmt <;> simp [zeroTolerant, hf]

/-- A frame error leaves `VPOS` where it found it (60_exceptions.md R712). -/
theorem FrameFails.vpos_eq {s t : State} {cause : Option Cause} {ctx : Ctx} (h : FrameFails s t cause ctx) :
    t.vpos = s.vpos := by
  obtain ⟨ht, -⟩ := h
  rw [ht]

/-- A code emitted where an AC codeword is read ends its block exactly when it is the end-of-block code
(40_mdec_code.md R212). -/
theorem State.ReadingAc.isTerminal_eq {s : State} (h : s.ReadingAc) (c : Code) :
    isTerminal s.trk.firstOfBlock c = c.isEob := by
  rw [h.later, isTerminal_later]

/-- The cyclic order of the roles with its wrap after the last block of a macroblock made a case of its own
(40_mdec_code.md R205, R214). -/
theorem Role.next_eq_ite (r : Role) : r.next = if r = .y4 then .cr else r.next := by
  split
  case isTrue h => rw [h]; rfl
  case isFalse => rfl

/-! ## What the two codewords do where an AC codeword is read -/

/-- The escape where it is read: cut short, run overflow, zero level or emitted, in this order
(43_entropy_ac.md R362; 60_exceptions.md R708). -/
theorem State.ReadingAc.exec_acEscape {s : State} (h : s.ReadingAc) (r : BitVec 6) (l : BitVec 10) :
    exec (.acEscape r l) s =
      if s.streamBits < s.bitPos + 22 then .next (raiseEndOfStream s)
      else if 63 < s.vpos + r.toNat + 1 then
        .next (raiseCorruption .runOverflow (.number (s.vpos + r.toNat + 1 : Nat)) s.bitPos
          { s with bitPos := s.bitPos + 22 })
      else if l = 0#10 ∧ zeroTolerant s = false then
        .next (raiseCorruption .zeroEscape (.number r.toNat) s.bitPos
          { s with bitPos := s.bitPos + 22, vpos := s.vpos + r.toNat + 1 })
      else .next (emit s.bitPos ⟨r, l⟩ { s with bitPos := s.bitPos + 22, vpos := s.vpos + r.toNat + 1 }) := by
  rw [exec_ac (w := ⟨r, l, 22, true⟩) rfl, acCodeword_eq h.context_eq (List.mem_singleton_self _)]
  simp only [true_and]

/-- The end-of-block codeword where it is read: cut short or emitted, whatever `VPOS` (43_entropy_ac.md R360). -/
theorem State.ReadingAc.exec_acEob {s : State} (h : s.ReadingAc) :
    exec .acEob s =
      if s.streamBits < s.bitPos + 2 then .next (raiseEndOfStream s)
      else .next (emit s.bitPos eobCode { s with bitPos := s.bitPos + 2 }) :=
  calc exec .acEob s = eobCodeword s := rfl
    _ = _ := eobCodeword_eq h.context_eq (.inl rfl)

/-! ## The obligations -/

/-- Settles O13: the clauses are the branches of `exec_acEscape` in their order.  A zero-level error keeps the `VPOS` of
the state that raised it, and a run that passes the run check is below 63, so the emitted code is never the end of
block. -/
theorem escapeCodeword : Obligations.EscapeCodeword := by
  refine ⟨fun _ _ => rfl, fun r l s hs => ⟨fun hcut => ?cut, fun hbits hover => ?overflow,
    fun hbits hrun hzero hstrict => ?zeroLevel, fun hbits hrun hok => ?emitted⟩⟩
  case cut =>
    have hexec : exec (.acEscape r l) s = .next (raiseEndOfStream s) := by
      rw [hs.exec_acEscape, if_pos hcut]
    exact ⟨_, hexec, raiseEndOfStream_frameFails s⟩
  case overflow =>
    have hexec : exec (.acEscape r l) s = .next (raiseCorruption .runOverflow (.number (s.vpos + r.toNat + 1 : Nat))
        s.bitPos { s with bitPos := s.bitPos + 22 }) := by
      rw [hs.exec_acEscape, if_neg (Nat.not_lt.mpr hbits), if_pos hover]
    exact ⟨_, hexec, raiseCorruption_frameFails _ _ _ _⟩
  case zeroLevel =>
    have htol : zeroTolerant s = false :=
      Bool.eq_false_iff.mpr fun h => let ⟨f, hf, hmem⟩ := zeroTolerant_iff.mp h; hstrict f hf hmem
    have hexec : exec (.acEscape r l) s = .next (raiseCorruption .zeroEscape (.number r.toNat) s.bitPos
        { s with bitPos := s.bitPos + 22, vpos := s.vpos + r.toNat + 1 }) := by
      rw [hs.exec_acEscape, if_neg (Nat.not_lt.mpr hbits), if_neg (Nat.not_lt.mpr hrun), if_pos ⟨hzero, htol⟩]
    have hfails := raiseCorruption_frameFails .zeroEscape (.number r.toNat) s.bitPos
      { s with bitPos := s.bitPos + 22, vpos := s.vpos + r.toNat + 1 }
    refine ⟨_, hexec, ?_⟩
    rw [hfails.vpos_eq]
    exact hfails
  case emitted =>
    have hlevel : ¬(l = 0#10 ∧ zeroTolerant s = false) := by
      rintro ⟨hzero, htol⟩
      rcases hok with hne | hmem
      · exact hne hzero
      · rw [zeroTolerant_iff.mpr hmem] at htol
        cases htol
    have hterm : isTerminal s.trk.firstOfBlock ⟨r, l⟩ = false := by
      rw [hs.isTerminal_eq, isEob_eq_false (by omega)]
    rw [hs.exec_acEscape, if_neg (Nat.not_lt.mpr hbits), if_neg (Nat.not_lt.mpr hrun), if_neg hlevel]
    exact congrArg Host.Outcome.next (emit_code hterm)

/-- Settles O15: cut short, or else the end-of-block code is emitted where it is terminal; the position it would take is
never computed, and the tracker's next role is the wrapped one after the last block of a macroblock. -/
theorem eobCodeword_holds : Obligations.EobCodeword := by
  refine ⟨rfl, rfl, fun s hs => ⟨fun hcut => ?cut, fun hbits => ?emitted⟩⟩
  case cut =>
    have hexec : exec .acEob s = .next (raiseEndOfStream s) := by
      rw [hs.exec_acEob, if_pos hcut]
    exact ⟨_, hexec, raiseEndOfStream_frameFails s⟩
  case emitted =>
    have hterm : isTerminal s.trk.firstOfBlock eobCode = true := by
      rw [hs.isTerminal_eq, Code.isEob_iff_eq_eobCode]
    rw [hs.exec_acEob, if_neg (Nat.not_lt.mpr hbits), ← Role.next_eq_ite]
    exact congrArg Host.Outcome.next (emit_eob hterm)

end Sys2Proof.Machine

/-! PROOFS. The place of a block in its plane (40_mdec_code.md R206; 45_reconstruction.md R569). -/

namespace Sys2Proof.Machine

/-! ## The macroblock grid -/

/-- The column of a macroblock of the frame: macroblocks run down the columns (40_mdec_code.md R206). -/
theorem Cfg.mbColumn_lt {c : Cfg} {i : Nat} (h : i < c.mbCount) : i / c.mbH < c.mbW :=
  Nat.div_lt_of_lt_mul (Nat.mul_comm c.mbW c.mbH ▸ h)

/-- The row of a macroblock of the frame (40_mdec_code.md R206). -/
theorem Cfg.mbRow_lt {c : Cfg} {i : Nat} (h : i < c.mbCount) : i % c.mbH < c.mbH :=
  Nat.mod_lt i (Nat.pos_of_mul_pos_left (Nat.zero_lt_of_lt h))

/-! ## The samples of a block -/

/-- A chroma block fills its macroblock's 8x8 cell of the plane (45_reconstruction.md R569). -/
theorem blockOrigin_chroma {c : Cfg} {i x y : Nat} {r : Role} (hr : r.isLuma = false) (hx : x < 8)
    (hy : y < 8) :
    ((blockOrigin c i r).1 + x) / 8 = i / c.mbH ∧ ((blockOrigin c i r).2 + y) / 8 = i % c.mbH := by
  cases r with
  | cr | cb =>
    simp only [blockOrigin, Cfg.mbPixel]
    omega
  | y1 | y2 | y3 | y4 => cases hr

/-- A luma block lies in its macroblock's 16x16 cell of the plane, in reading order (45_reconstruction.md R569). -/
theorem blockOrigin_luma {c : Cfg} {i x y : Nat} {r : Role} (hr : r.isLuma = true) (hx : x < 8)
    (hy : y < 8) :
    ((blockOrigin c i r).1 + x) / 16 = i / c.mbH ∧ ((blockOrigin c i r).2 + y) / 16 = i % c.mbH ∧
    2 + ((blockOrigin c i r).1 + x) / 8 % 2 + 2 * (((blockOrigin c i r).2 + y) / 8 % 2) = r.index := by
  cases r with
  | cr | cb => cases hr
  | y1 | y2 | y3 | y4 =>
    simp only [blockOrigin, Cfg.mbPixel, Role.index]
    omega

/-- The samples of a block of the frame lie inside its plane (45_reconstruction.md R569). -/
theorem inside_block {c : Cfg} {i x y : Nat} (r : Role) (hi : i < c.mbCount) (hx : x < 8) (hy : y < 8) :
    r.plane.Inside c ((blockOrigin c i r).1 + x) ((blockOrigin c i r).2 + y) := by
  have hcolumn : i / c.mbH < c.mbW := Cfg.mbColumn_lt hi
  have hrow : i % c.mbH < c.mbH := Cfg.mbRow_lt hi
  cases r with
  | cr | cb | y1 | y2 | y3 | y4 =>
    simp only [PlaneId.Inside, Role.plane, PlaneId.stride, PlaneId.rows, Cfg.w16, Cfg.h16, blockOrigin, Cfg.mbPixel]
    omega

/-- The samples of a block bear its number in decode order (45_reconstruction.md R569). -/
theorem blockNumber_block {c : Cfg} {i x y : Nat} (r : Role) (hx : x < 8) (hy : y < 8) :
    blockNumber c r.plane ((blockOrigin c i r).1 + x) ((blockOrigin c i r).2 + y) = 6 * i + r.index := by
  have hi : i / c.mbH * c.mbH + i % c.mbH = i := Nat.div_add_mod' i c.mbH
  have hchroma (hr : r.isLuma = false) := blockOrigin_chroma (c := c) (i := i) hr hx hy
  have hluma (hr : r.isLuma = true) := blockOrigin_luma (c := c) (i := i) hr hx hy
  cases r with
  | cr | cb =>
    obtain ⟨hcolumn, hrow⟩ := hchroma rfl
    simp only [blockNumber, Role.plane, hcolumn, hrow, hi, Role.index, Nat.add_zero]
  | y1 | y2 | y3 | y4 =>
    obtain ⟨hcolumn, hrow, hindex⟩ := hluma rfl
    simp only [blockNumber, Role.plane, hcolumn, hrow, hi]
    omega

/-- Settles O28: the origins are read off `blockOrigin`, and a block of the frame is a cell of its plane's grid. -/
theorem everyBlockHasItsPlace : Obligations.EveryBlockHasItsPlace :=
  ⟨fun _ _ => ⟨⟨rfl, rfl⟩, ⟨rfl, rfl⟩, ⟨rfl, rfl⟩, ⟨rfl, rfl⟩, ⟨rfl, rfl⟩, ⟨rfl, rfl⟩⟩,
    fun _ _ r _ _ hi hx hy => ⟨inside_block r hi hx hy, blockNumber_block r hx hy⟩⟩

end Sys2Proof.Machine

/-! PROOFS. The first code and the end of a block in pixel mode (45_reconstruction.md R556, R557, R562). -/

namespace Sys2Proof.Machine

/-! ## A code at a boundary of its block -/

/-- The first code or the end of block has been taken from where it waited, and a run held back is dropped
(44_filter.md R503). -/
def State.passBoundary (s : State) : State := { s with emitted := none, pendRun := none }

/-- In pixel mode the first code and the end of block go to the reconstruction engine as they are
(44_filter.md R503; 47_host_interface.md R654). -/
theorem consumeCode_pixels_boundary {c : Code} {e : Emitted} {s : State} (hrun : s.running = .decodeFrame)
    (hb : (e.first || c.isEob) = true) :
    consumeCode c e s = reconstruct e (isTerminal e.first c) c.passed s.passBoundary := by
  have hpass : filterStep e.first c { s with emitted := none } = (some c.passed, s.passBoundary) :=
    filterStep_boundary hb
  rw [consumeCode, hpass, hrun]

/-- The first code of a block, whatever its bits, goes to the consumer (40_mdec_code.md R212). -/
theorem exec_mdecDc_first {e : Emitted} {s : State} (he : s.emitted = some e) (hfirst : e.first = true)
    (q : BitVec 6) (d : BitVec 10) : exec (.mdecDc q d) s = consumeCode ⟨q, d⟩ e s :=
  calc exec (.mdecDc q d) s = execMdecDc q d s := rfl
    _ = consumeCode ⟨q, d⟩ e s := by simp only [execMdecDc, he, hfirst, if_true]

/-- The end of block of a block that has a first code goes to the consumer (40_mdec_code.md R212). -/
theorem exec_mdecEob_later {e : Emitted} {s : State} (he : s.emitted = some e) (hlater : e.first = false) :
    exec .mdecEob s = consumeCode eobCode e s :=
  calc exec .mdecEob s = execMdecEob s := rfl
    _ = consumeCode eobCode e s := by simp only [execMdecEob, he, hlater, Bool.false_eq_true, if_false]

/-- After a code of an ACTIVE frame DECODE_FRAME reads on, after the last one of a frame it ends
(47_host_interface.md R654). -/
theorem continueDecode_eq (s : State) :
    continueDecode s = { s with
      emitted := if s.dstate = .active then s.emitted else none
      running := if s.dstate = .active then s.running else .idle
      reply := if s.dstate = .active then s.reply else some .ok
      status := if s.dstate = .active then s.status else
        { s.status with
          warn := { s.status.warn with
            degenerateCodes := s.status.warn.degenerateCodes || decide (0 < s.degenCount) }
          degenCount := s.degenCount } } := by
  unfold continueDecode
  by_cases h : s.dstate = .active
  · simp only [if_pos h]
  · simp only [if_neg h, finish, endFrame_eq]

/-! ## The first code -/

/-- The matrix a block's first code leaves: all zero but for a DC that is not 0 (45_reconstruction.md R556, R557). -/
def firstMatrix (variant : Variant) (d : BitVec 10) (q0 : Byte) : Vector Sample 64 :=
  if d = 0#10 then Vector.replicate 64 (zeroSample variant)
  else (Vector.replicate 64 (zeroSample variant)).set 0 (dequantDc variant d.toInt q0)

/-- An entry of that matrix. -/
theorem getElem_firstMatrix (variant : Variant) (d : BitVec 10) (q0 : Byte) (k : Fin 64) :
    (firstMatrix variant d q0)[k] =
      if k = 0 ∧ d ≠ 0#10 then dequantDc variant d.toInt q0 else zeroSample variant := by
  by_cases hd : d = 0#10
  · simp [firstMatrix, hd]
  · have hk : (0 = k.val) = (k = 0) := by rw [Fin.ext_iff, eq_comm (a := k.val)]; rfl
    simp [firstMatrix, hd, Vector.getElem_set, hk]

/-- The first code of a block clears the block's registers and stores its DC (45_reconstruction.md R556, R557). -/
theorem reconDc_passed (q : BitVec 6) (d : BitVec 10) (s : State) :
    reconDc (Code.passed ⟨q, d⟩) s = { s with
      blk := firstMatrix s.cfg.variant d s.qtActive[0]
      nzCount := if d = 0#10 then 0 else 1
      lastNz := if d = 0#10 then none else some 0
      blkQscale := q
      rpos := 0 } := by
  by_cases hd : d = 0#10 <;> simp [reconDc, blockStart, Code.passed, firstMatrix, hd]

/-- Settles O25: the code starts the block, and the frame is still ACTIVE, so the operation reads on. -/
theorem firstCodeStartsTheBlock : Obligations.FirstCodeStartsTheBlock := by
  intro q d e s hrun hemitted hfirst hactive
  refine ⟨firstMatrix s.cfg.variant d s.qtActive[0], fun k => ?_, ?_⟩
  · rw [getElem_firstMatrix]
    cases s.cfg.variant <;> rfl
  · have hb : (e.first || Code.isEob ⟨q, d⟩) = true := by rw [hfirst, Bool.true_or]
    calc exec (.mdecDc q d) s
        = consumeCode ⟨q, d⟩ e s := exec_mdecDc_first hemitted hfirst q d
      _ = .next (continueDecode (reconDc (Code.passed ⟨q, d⟩) s.passBoundary)) := by
          rw [consumeCode_pixels_boundary hrun hb, reconstruct, if_pos hfirst]
      _ = _ := by
          rw [reconDc_passed]
          exact congrArg Host.Outcome.next (if_pos hactive)

/-! ## The writes of a block -/

/-- The row-major address of a sample tells its column and its row (20_memory.md R120). -/
theorem planeAddress_inj {stride x y x' y' : Nat} (hx : x < stride) (hx' : x' < stride)
    (h : y * stride + x = y' * stride + x') : x = x' ∧ y = y' := by
  have hcolumn : x = x' := by
    rw [← Nat.mul_add_mod_of_lt (a := y) hx, h, Nat.mul_add_mod_of_lt hx']
  subst hcolumn
  exact ⟨rfl, Nat.eq_of_mul_eq_mul_right (Nat.zero_lt_of_lt hx) (Nat.add_right_cancel h)⟩

/-- The address `blockWrites` gives sample `k` of a block (20_memory.md R120). -/
def blockAddress (stride x0 y0 k : Nat) : Nat := (y0 + k / 8) * stride + (x0 + k % 8)

/-- In a block that fits the stride, the sample with the address of a position stands at that position. -/
theorem blockAddress_eq_iff {stride x0 y0 x y k : Nat} (hfits : x0 + 8 ≤ stride) (hx : x < stride) :
    blockAddress stride x0 y0 k = y * stride + x ↔ x0 + k % 8 = x ∧ y0 + k / 8 = y := by
  refine ⟨planeAddress_inj (by omega) hx, ?_⟩
  rintro ⟨rfl, rfl⟩
  rfl

/-- The samples of a block that fits the stride have 64 addresses. -/
theorem blockAddress_pairwise_ne {stride x0 : Nat} (y0 : Nat) (hfits : x0 + 8 ≤ stride) :
    (List.range 64).Pairwise (fun k k' => blockAddress stride x0 y0 k ≠ blockAddress stride x0 y0 k') :=
  List.nodup_range.imp fun {k k'} hne h => by
    have := (blockAddress_eq_iff hfits (x := x0 + k' % 8) (by omega)).mp h
    omega

/-- What the 64 writes of a block leave in a plane: its samples in their places, and what was there elsewhere
(20_memory.md R120; 45_reconstruction.md R562). -/
theorem read_blockWrites {rest : Sample} {stride x0 y0 x y : Nat} (f : Nat → Sample) {m : Memory Sample}
    (hwf : Memory.wf rest m = true) (hfits : x0 + 8 ≤ stride) (hx : x < stride) :
    Memory.read rest (blockWrites rest stride x0 y0 f m) (y * stride + x) =
      if x0 ≤ x ∧ x < x0 + 8 ∧ y0 ≤ y ∧ y < y0 + 8 then f (8 * (y - y0) + (x - x0))
      else Memory.read rest m (y * stride + x) := by
  obtain ⟨hin, hout⟩ := Memory.read_foldl_write (blockAddress stride x0 y0) f (List.range 64) m (y * stride + x) hwf
    (blockAddress_pairwise_ne y0 hfits)
  split
  case isTrue hblock =>
    exact hin _ (List.mem_range.mpr (by omega)) ((blockAddress_eq_iff hfits hx).mpr (by omega))
  case isFalse hblock =>
    refine hout fun k hk h => hblock ?_
    have hplace := (blockAddress_eq_iff hfits hx).mp h
    have hk64 := List.mem_range.mp hk
    omega

/-- Setting a plane sets that plane alone. -/
theorem plane_setPlane (p p' : PlaneId) (m : Memory Sample) (s : State) :
    (s.setPlane p m).plane p' = if p' = p then m else s.plane p' := by
  cases p <;> cases p' <;> rfl

/-- The invariant of each plane (10_state.md R69). -/
theorem State.Inv.plane {s : State} (h : s.Inv) : ∀ p, PlaneInv s p
  | .y => h.planeY
  | .cb => h.planeCb
  | .cr => h.planeCr

/-- A block write changes the 64 samples of its block and no other (45_reconstruction.md R562, R569). -/
theorem planeRead_writeBlock {i : Nat} {r : Role} (f : Nat → Sample) {s : State} {p : PlaneId} {x y : Nat}
    (hwf : Memory.wf (zeroSample s.cfg.variant) (s.plane r.plane) = true) (hi : i < s.cfg.mbCount)
    (hxy : p.Inside s.cfg x y) :
    planeRead (writeBlock i r f s) p x y =
      if p = r.plane ∧ (blockOrigin s.cfg i r).1 ≤ x ∧ x < (blockOrigin s.cfg i r).1 + 8 ∧
          (blockOrigin s.cfg i r).2 ≤ y ∧ y < (blockOrigin s.cfg i r).2 + 8 then
        f (8 * (y - (blockOrigin s.cfg i r).2) + (x - (blockOrigin s.cfg i r).1))
      else planeRead s p x y := by
  by_cases hp : p = r.plane
  · subst hp
    obtain ⟨hlast, -⟩ := inside_block (x := 7) (y := 7) r hi (by decide) (by decide)
    simp only [planeRead, writeBlock, setPlane_cfg, plane_setPlane, if_true, true_and]
    exact read_blockWrites f hwf hlast hxy.1
  · simp only [planeRead, writeBlock, setPlane_cfg, plane_setPlane, hp, false_and, if_false]

/-! ## The end of block -/

/-- The samples of a block of one coefficient, at the index remembered (45_reconstruction.md R562). -/
theorem blockSample_of_one {s : State} {m : Fin 64} (h : s.nzCount = 1) (hm : s.lastNz = some m) :
    (fun k => blockSample s (Fin.ofNat 64 k)) = idct1Samples s.params s.cfg.variant m s.blk[m] := by
  funext k
  cases hv : s.cfg.variant <;> simp [blockSample, idct1Samples, h, hm, hv]

/-- The samples of a block of more coefficients (45_reconstruction.md R562). -/
theorem blockSample_of_more {s : State} (h0 : s.nzCount ≠ 0) (h1 : s.nzCount ≠ 1) :
    (fun k => blockSample s (Fin.ofNat 64 k)) = idctSamples s.params s.cfg.variant s.blk := by
  funext k
  cases hv : s.cfg.variant <;> simp [blockSample, idctSamples, h0, h1, hv]

/-- The end of block writes the samples its block gives (45_reconstruction.md R562). -/
theorem reconEob_eq {i : Nat} {s : State} (r : Role) (hi : i < s.cfg.mbCount)
    (hlast : 1 ≤ s.nzCount → s.lastNz ≠ none) :
    reconEob i r s = .next (writeBlock i r (fun k => blockSample s (Fin.ofNat 64 k)) s) := by
  rw [reconEob, if_pos hi]
  by_cases h0 : s.nzCount = 0
  · simp only [h0, if_true, zeroBlock, blockSample]
  by_cases h1 : s.nzCount = 1
  · obtain ⟨m, hm⟩ := Option.ne_none_iff_exists'.mp (hlast h1.ge)
    rw [if_neg h0, if_pos h1, hm, blockSample_of_one h1 hm]
  · rw [if_neg h0, if_neg h1, blockSample_of_more h0 h1]

/-- What the end of block does in pixel mode (45_reconstruction.md R562; 47_host_interface.md R654). -/
theorem exec_mdecEob_pixels {e : Emitted} {s : State} (hinv : s.Inv) (hrun : s.running = .decodeFrame)
    (he : s.emitted = some e) (hlater : e.first = false) :
    exec .mdecEob s = .next (continueDecode (writeBlock e.mbIndex e.role (fun k => blockSample s (Fin.ofNat 64 k))
      s.passBoundary)) := by
  have hb : (e.first || eobCode.isEob) = true := by rw [hlater]; rfl
  have hterm : isTerminal e.first eobCode = true := by rw [hlater]; rfl
  calc exec .mdecEob s
      = consumeCode eobCode e s := exec_mdecEob_later he hlater
    _ = reconstruct e true eobCode.passed s.passBoundary := by
        rw [consumeCode_pixels_boundary hrun hb, hterm]
    _ = _ := by
        rw [reconstruct, hlater, if_neg Bool.false_ne_true, if_pos rfl,
          reconEob_eq (s := s.passBoundary) e.role (hinv.emitted e he).inFrame hinv.lastNz]
        rfl

/-- Settles O27: the block write lands inside its plane, by the place of every block, and `continueDecode` leaves the
planes alone. -/
theorem endOfBlockWritesTheBlock : Obligations.EndOfBlockWritesTheBlock := by
  intro e s hinv hrun he hlater _
  refine ⟨_, exec_mdecEob_pixels hinv hrun he hlater, fun p x y hxy => ?samples, ?frame⟩
  case samples =>
    rw [continueDecode_eq]
    exact planeRead_writeBlock (s := s.passBoundary) _ (hinv.plane e.role.plane).wf (hinv.emitted e he).inFrame hxy
  case frame =>
    obtain ⟨y, cb, cr, h⟩ := writeBlock_withPlanes e.mbIndex e.role (fun k => blockSample s (Fin.ofNat 64 k))
      s.passBoundary
    rw [h, continueDecode_eq]
    simp only [State.withPlanes, State.passBoundary, hrun, ite_self]

end Sys2Proof.Machine

/-! PROOFS. The status record (47_host_interface.md R657; 70_reset_and_hazards.md R751). -/

namespace Sys2Proof.Machine

/-- An operation is carried out where no other runs (70_reset_and_hazards.md R760; log 28). -/
theorem whenIdle_of_idle {s : State} (h : s.running = .idle) (k : Result) : whenIdle s k = k :=
  if_pos h

/-- Before the first CONFIGURE the record has no body (70_reset_and_hazards.md R751). -/
theorem statusRecord_of_not_configured {s : State} (h : s.configured = false) : statusRecord s = ⟨false, none⟩ := by
  simp only [statusRecord, h, Bool.false_eq_true, if_false]

/-- After CONFIGURE the body reads the elements of the state (47_host_interface.md R657). -/
theorem statusRecord_of_configured {s : State} (h : s.configured = true) :
    statusRecord s = ⟨true, some ⟨s.dstate, s.frameMode, s.fmt, s.hdr, s.streamBits, s.bitPos, s.status, s.trk,
      s.cfg.mbPixel s.trk.mbIndex⟩⟩ := by
  simp only [statusRecord, h, if_true]

/-- QUERY_STATUS sets the outcome to the status record and nothing else (47_host_interface.md R657). -/
theorem exec_queryStatus_of_idle {s : State} (h : s.running = .idle) :
    exec .queryStatus s = .next { s with reply := some (.status (statusRecord s)) } :=
  whenIdle_of_idle h _

/-- Settles O48: the operation only answers the status record, whose body hangs on CONFIGURED alone. -/
theorem queryStatusReports : Obligations.QueryStatusReports := by
  intro s hidle
  rw [exec_queryStatus_of_idle hidle]
  refine ⟨fun hnot => ?notConfigured, fun hconf => ?configured⟩
  case notConfigured => rw [statusRecord_of_not_configured hnot]
  case configured => rw [statusRecord_of_configured hconf, Cfg.mbPixel]

end Sys2Proof.Machine

/-! PROOFS. The reset (47_host_interface.md R650; 70_reset_and_hazards.md R750). -/

namespace Sys2Proof.Machine

/-- The upsamplers a host may choose are NEAREST and the kernels of the parameter (47_host_interface.md R650). -/
theorem upsamplerDefined_iff {p : Params} {u : Upsampler} :
    upsamplerDefined p u = true ↔ u = .nearest ∨ ∃ k ∈ p.kernels, u = .kernel k := by
  cases u with
  | nearest => simp [upsamplerDefined]
  | kernel k => simp [upsamplerDefined]

/-- CONFIGURE between operations: refused for its size, refused for its upsampler, or the reset
(47_host_interface.md R650). -/
theorem exec_configure_of_idle {s : State} (h : s.running = .idle) (width height : Int) (v : Variant) (merge : Bool)
    (u : Upsampler) :
    exec (.configure width height v merge u) s =
      if ¬ (1 ≤ width ∧ width ≤ s.params.maxDim.toNat ∧ 1 ≤ height ∧ height ≤ s.params.maxDim.toNat) then refuse s
      else if upsamplerDefined s.params u = false then refuse s
      else .next { afterConfigure ⟨BitVec.ofInt 16 width, BitVec.ofInt 16 height, v, merge, u⟩ s with
        reply := some .ok } :=
  whenIdle_of_idle h _

/-- Settles O33: with the size and the upsampler legal neither refusal is taken, and what remains is the reset, element
by element that of R750. -/
theorem configureResetsTheCore : Obligations.ConfigureResetsTheCore := by
  intro width height v merge u s hidle hw1 hw hh1 hh hu
  have hdefined : ¬ upsamplerDefined s.params u = false := by
    rw [upsamplerDefined_iff.mpr hu]
    decide
  rw [exec_configure_of_idle hidle, if_neg (not_not_intro ⟨hw1, hw, hh1, hh⟩), if_neg hdefined]
  rfl

end Sys2Proof.Machine

/-! PROOFS. The codewords as bit strings (30_encoding.md R158 to R170; 43_entropy_ac.md R351). -/

namespace Sys2Proof

/-! ## Bit strings -/

@[simp] theorem length_bitsOfNat (k v : Nat) : (bitsOfNat k v).length = k := by
  induction k with
  | zero => rfl
  | succ k ih => simp [bitsOfNat, ih]

@[simp] theorem length_bitsOf {n : Nat} (v : BitVec n) : (bitsOf v).length = n := length_bitsOfNat n _

/-- Reading on from a number appends the bits below it. -/
theorem foldl_bitsOfNat (k v n : Nat) :
    (bitsOfNat k v).foldl (fun n b => 2 * n + b.toNat) n = n * 2 ^ k + v % 2 ^ k := by
  induction k generalizing n with
  | zero => simp [bitsOfNat, Nat.mod_one]
  | succ k ih =>
    rw [bitsOfNat, List.foldl_cons, ih, Nat.toNat_testBit, Nat.mod_pow_succ, Nat.pow_succ]
    ring

/-- The bits of a word read as the word (00_scope.md R10). -/
theorem natOfBits_bitsOf {n : Nat} (v : BitVec n) : natOfBits (bitsOf v) = v.toNat := by
  rw [natOfBits, bitsOf, foldl_bitsOfNat, Nat.zero_mul, Nat.zero_add, Nat.mod_eq_of_lt v.isLt]

/-- The operand bits of a codeword give the operand back. -/
theorem ofNat_natOfBits_bitsOf {n : Nat} (v : BitVec n) : BitVec.ofNat n (natOfBits (bitsOf v)) = v := by
  rw [natOfBits_bitsOf, BitVec.ofNat_toNat, BitVec.setWidth_eq]

/-- A code is stripped from a bit string exactly when the string begins with it. -/
theorem stripPrefix_eq_some {c w rest : Bits} : stripPrefix c w = some rest ↔ w = c ++ rest := by
  induction c generalizing w with
  | nil => simp [stripPrefix]
  | cons b c ih =>
    cases w with
    | nil => simp [stripPrefix]
    | cons a w =>
      by_cases hab : b = a
      · simp [stripPrefix, hab, ih]
      · simp [stripPrefix, hab, eq_comm (a := a)]

/-- A list splits after `n` elements exactly when it has as many. -/
theorem splitExact_eq_some {α : Type} {n : Nat} {l front rest : List α} :
    splitExact n l = some (front, rest) ↔ l = front ++ rest ∧ front.length = n := by
  induction n generalizing l front with
  | zero =>
    cases front with
    | nil => simp [splitExact]
    | cons a front => simp [splitExact]
  | succ n ih =>
    cases l with
    | nil => cases front <;> simp [splitExact]
    | cons a l =>
      cases front with
      | nil => cases h : splitExact n l <;> simp [splitExact, h]
      | cons b front =>
        cases h : splitExact n l with
        | none =>
          have hno : ¬ (l = front ++ rest ∧ front.length = n) := fun hl => by simp [ih.mpr hl] at h
          simp only [splitExact, h, List.cons_append, List.cons.injEq, List.length_cons, Nat.add_right_cancel_iff]
          simpa [and_assoc] using fun _ => not_and.mp hno
        | some p =>
          obtain ⟨f, r⟩ := p
          have hf := @ih l front
          simp only [splitExact, h, List.cons_append, List.cons.injEq, List.length_cons, Nat.add_right_cancel_iff,
            Option.some.injEq, Prod.mk.injEq] at hf ⊢
          rw [and_assoc, and_assoc, hf]

/-- Two bit strings agree exactly when one begins with the other. -/
theorem agrees_iff {c w : Bits} : agrees c w = true ↔ (∃ r, w = c ++ r) ∨ ∃ r, c = w ++ r := by
  induction c generalizing w with
  | nil => simp [agrees]
  | cons b c ih =>
    cases w with
    | nil => simp [agrees]
    | cons a w =>
      by_cases hab : b = a
      · simp [agrees, hab, ih]
      · simp [agrees, hab, eq_comm (a := a)]

/-! ## The codeword tables -/

/-- The bits of a row's codeword are there: the fixed bits, then its operand. -/
theorem matchRow_append (r : Row) {operand : Bits} (h : operand.length = r.extra) (rest : Bits) :
    matchRow r (r.code ++ operand ++ rest) = some (r.build operand, r.code.length + r.extra) := by
  rw [List.append_assoc]
  simp only [matchRow, stripPrefix_eq_some.mpr rfl, splitExact_eq_some.mpr ⟨rfl, h⟩]

/-- A row matches where the bits begin with its fixed bits and as many operand bits. -/
theorem matchRow_eq_some {r : Row} {w : Bits} {i : Instr} {n : Nat} (h : matchRow r w = some (i, n)) :
    ∃ operand rest, w = r.code ++ operand ++ rest ∧ operand.length = r.extra := by
  unfold matchRow at h
  split at h
  case h_1 => cases h
  case h_2 tail hcode =>
    split at h
    case h_1 => cases h
    case h_2 operand rest hop =>
      obtain ⟨rfl, hlen⟩ := splitExact_eq_some.mp hop
      exact ⟨operand, rest, by rw [stripPrefix_eq_some.mp hcode, List.append_assoc], hlen⟩

/-- A row matches only bits that agree with its code. -/
theorem agrees_of_matchRow {r : Row} {w : Bits} {m : Instr × Nat} (h : matchRow r w = some m) :
    agrees r.code w = true := by
  obtain ⟨operand, rest, rfl, -⟩ := matchRow_eq_some h
  exact agrees_iff.mpr (.inl ⟨operand ++ rest, List.append_assoc ..⟩)

/-- No code of the table is the beginning of another (43_entropy_ac.md R351). -/
def PrefixFree (rows : List Row) : Prop := rows.Pairwise (fun r r' => agrees r.code r'.code = false)

/-- Bits that begin with one code agree with no code that disagrees with it. -/
theorem agrees_append_eq_false {c d : Bits} (h : agrees c d = false) (rest : Bits) : agrees c (d ++ rest) = false := by
  rw [← Bool.not_eq_true, agrees_iff] at h ⊢
  rintro (⟨r, hr⟩ | ⟨r, hr⟩)
  · rcases List.append_eq_append_iff.mp hr with ⟨m, rfl, -⟩ | ⟨m, rfl, -⟩
    · exact h (.inr ⟨m, rfl⟩)
    · exact h (.inl ⟨m, rfl⟩)
  · exact h (.inr ⟨rest ++ r, by rw [hr, List.append_assoc]⟩)

/-- In a table no code of which begins another, the codeword of a row is the one its bits decode to (43_entropy_ac.md R351). -/
theorem classifyRows_append {rows : List Row} (hfree : PrefixFree rows) {r : Row} (hr : r ∈ rows) {operand : Bits}
    (hop : operand.length = r.extra) (rest : Bits) :
    classifyRows rows (r.code ++ operand ++ rest) = .found (r.build operand) (r.code.length + r.extra) := by
  have hfind : rows.findSome? (fun r' => matchRow r' (r.code ++ operand ++ rest)) =
      some (r.build operand, r.code.length + r.extra) := by
    obtain ⟨before, after, rfl⟩ := List.append_of_mem hr
    refine List.findSome?_eq_some_iff.mpr ⟨before, r, after, rfl, matchRow_append r hop rest, fun r' hr' => ?_⟩
    have hdis : agrees r'.code r.code = false :=
      (List.pairwise_append.mp hfree).2.2 r' hr' r (List.mem_cons_self ..)
    by_contra hne
    obtain ⟨m, hm⟩ := Option.ne_none_iff_exists'.mp hne
    have hagree := agrees_of_matchRow hm
    rw [List.append_assoc, agrees_append_eq_false hdis] at hagree
    cases hagree
  simp only [classifyRows, hfind]

theorem prefixFree_rowsOf (c : Context) : PrefixFree (rowsOf c) := by
  have acCodes : (acRows.map Row.code).Pairwise (fun c c' => agrees c c' = false) := by decide +kernel
  have lumaCodes : (dcLumaRows.map Row.code).Pairwise (fun c c' => agrees c c' = false) := by decide
  have chromaCodes : (dcChromaRows.map Row.code).Pairwise (fun c c' => agrees c c' = false) := by decide
  cases c with
  | ac => exact List.pairwise_map.mp acCodes
  | dcLuma => exact List.pairwise_map.mp lumaCodes
  | dcChroma => exact List.pairwise_map.mp chromaCodes
  | dcShared | acTitle => exact List.pairwise_singleton _ _
  | codeFirst | codeLater | command => exact List.Pairwise.nil

/-! ## The row of an instruction -/

/-- The row of a codeword table with this codeword: its fixed bits, its operand and the instruction they give. -/
def HasRow (i : Instr) : Prop :=
  ∀ code, encode i = .codeword code →
    ∃ r ∈ rowsOf (contextOf i), ∃ operand, code = r.code ++ operand ∧ operand.length = r.extra ∧ r.build operand = i

/-- The number of an instruction's row in its table: the tables stand in the order of the instructions. -/
def rowNumber (i : Instr) : Nat :=
  i.ctorIdx - (match contextOf i with
    | .dcShared => (Instr.dcShared 0#10).ctorIdx
    | .dcLuma => Instr.dcDiffYS0.ctorIdx
    | .dcChroma => Instr.dcDiffCS0.ctorIdx
    | .ac | .acTitle | .codeFirst | .codeLater | .command => Instr.acEob.ctorIdx)

/-- An instruction whose row, by its number, gives it back from its operand. -/
theorem HasRow.of_operand {i : Instr} {r : Row} (operand : Bits) (hr : (rowsOf (contextOf i))[rowNumber i]? = some r)
    (hcode : encode i = .codeword (r.code ++ operand)) (hlen : operand.length = r.extra)
    (hbuild : r.build operand = i) : HasRow i := by
  intro code h
  rw [hcode] at h
  cases h
  exact ⟨r, List.mem_of_getElem? hr, operand, rfl, hlen, hbuild⟩

theorem hasRow (i : Instr) : HasRow i := by
  cases i with
  | mdecEob | mdecDc | mdecAc | configure | setQuant | loadFrame | readCode | decodeFrame | readRgb | readYcbcr420
  | queryStatus => exact fun _ h => nomatch h
  | dcShared d => exact .of_operand (bitsOf d) rfl rfl rfl (congrArg Instr.dcShared (ofNat_natOfBits_bitsOf d))
  | dcDiffYS0 => exact .of_operand [] rfl rfl rfl rfl
  | dcDiffYS1 v => exact .of_operand (bitsOf v) rfl rfl rfl (congrArg Instr.dcDiffYS1 (ofNat_natOfBits_bitsOf v))
  | dcDiffYS2 v => exact .of_operand (bitsOf v) rfl rfl rfl (congrArg Instr.dcDiffYS2 (ofNat_natOfBits_bitsOf v))
  | dcDiffYS3 v => exact .of_operand (bitsOf v) rfl rfl rfl (congrArg Instr.dcDiffYS3 (ofNat_natOfBits_bitsOf v))
  | dcDiffYS4 v => exact .of_operand (bitsOf v) rfl rfl rfl (congrArg Instr.dcDiffYS4 (ofNat_natOfBits_bitsOf v))
  | dcDiffYS5 v => exact .of_operand (bitsOf v) rfl rfl rfl (congrArg Instr.dcDiffYS5 (ofNat_natOfBits_bitsOf v))
  | dcDiffYS6 v => exact .of_operand (bitsOf v) rfl rfl rfl (congrArg Instr.dcDiffYS6 (ofNat_natOfBits_bitsOf v))
  | dcDiffYS7 v => exact .of_operand (bitsOf v) rfl rfl rfl (congrArg Instr.dcDiffYS7 (ofNat_natOfBits_bitsOf v))
  | dcDiffYS8 v => exact .of_operand (bitsOf v) rfl rfl rfl (congrArg Instr.dcDiffYS8 (ofNat_natOfBits_bitsOf v))
  | dcDiffCS0 => exact .of_operand [] rfl rfl rfl rfl
  | dcDiffCS1 v => exact .of_operand (bitsOf v) rfl rfl rfl (congrArg Instr.dcDiffCS1 (ofNat_natOfBits_bitsOf v))
  | dcDiffCS2 v => exact .of_operand (bitsOf v) rfl rfl rfl (congrArg Instr.dcDiffCS2 (ofNat_natOfBits_bitsOf v))
  | dcDiffCS3 v => exact .of_operand (bitsOf v) rfl rfl rfl (congrArg Instr.dcDiffCS3 (ofNat_natOfBits_bitsOf v))
  | dcDiffCS4 v => exact .of_operand (bitsOf v) rfl rfl rfl (congrArg Instr.dcDiffCS4 (ofNat_natOfBits_bitsOf v))
  | dcDiffCS5 v => exact .of_operand (bitsOf v) rfl rfl rfl (congrArg Instr.dcDiffCS5 (ofNat_natOfBits_bitsOf v))
  | dcDiffCS6 v => exact .of_operand (bitsOf v) rfl rfl rfl (congrArg Instr.dcDiffCS6 (ofNat_natOfBits_bitsOf v))
  | dcDiffCS7 v => exact .of_operand (bitsOf v) rfl rfl rfl (congrArg Instr.dcDiffCS7 (ofNat_natOfBits_bitsOf v))
  | dcDiffCS8 v => exact .of_operand (bitsOf v) rfl rfl rfl (congrArg Instr.dcDiffCS8 (ofNat_natOfBits_bitsOf v))
  | acEob => exact .of_operand [] rfl rfl rfl rfl
  | acEscape r l =>
    refine .of_operand (bitsOf r ++ bitsOf l) rfl rfl rfl ?_
    exact congrArg₂ Instr.acEscape (ofNat_natOfBits_bitsOf r) (ofNat_natOfBits_bitsOf l)
  | _ neg => exact .of_operand [neg] rfl rfl rfl rfl

/-! ## Cut codewords -/

/-- The classification answers a codeword exactly when some row matches. -/
theorem classifyRows_found_iff {rows : List Row} {w : Bits} :
    (∃ i n, classifyRows rows w = .found i n) ↔ ∃ r ∈ rows, ∃ m, matchRow r w = some m := by
  have hmatch : (∃ r ∈ rows, ∃ m, matchRow r w = some m) ↔ (rows.findSome? (fun r => matchRow r w)).isSome = true := by
    simp only [List.findSome?_isSome_iff, ← Option.isSome_iff_exists]
  rw [hmatch]
  unfold classifyRows
  cases rows.findSome? (fun r => matchRow r w) with
  | none =>
    have hno : ∀ i n, (if rows.any (fun r => agrees r.code w) then Match.needMore else .unmatched) ≠ .found i n := by
      intro i n h
      split at h <;> cases h
    simpa using hno
  | some m => exact iff_of_true ⟨m.1, m.2, rfl⟩ rfl

/-- Bits that begin no codeword are unfinished exactly when they agree with the code of some row. -/
theorem classifyRows_needMore_iff {rows : List Row} {w : Bits} (h : ∀ i n, classifyRows rows w ≠ .found i n) :
    classifyRows rows w = .needMore ↔ ∃ r ∈ rows, agrees r.code w = true := by
  rw [← List.any_eq_true]
  unfold classifyRows at h ⊢
  split
  case h_1 i n hm => exact absurd (by rw [hm]) (h i n)
  case h_2 => split <;> simp [*]

/-- Bits that agree with a row's code have a continuation that begins with a codeword of the row. -/
theorem exists_matchRow_append {r : Row} {w : Bits} (h : agrees r.code w = true) :
    ∃ rest m, matchRow r (w ++ rest) = some m := by
  let operand : Bits := List.replicate r.extra false
  rcases agrees_iff.mp h with ⟨tail, rfl⟩ | ⟨tail, htail⟩
  · -- the code is whole, its operand may be cut: the bits that are there and enough more
    refine ⟨operand, (r.build ((tail ++ operand).take r.extra), r.code.length + r.extra), ?_⟩
    have hlen : ((tail ++ operand).take r.extra).length = r.extra := by simp [operand]
    have := matchRow_append r hlen ((tail ++ operand).drop r.extra)
    rwa [List.append_assoc, List.take_append_drop, ← List.append_assoc] at this
  · refine ⟨tail ++ operand, (r.build operand, r.code.length + r.extra), ?_⟩
    have := matchRow_append r (operand := operand) (by simp [operand]) []
    rwa [List.append_nil, congrArg (· ++ operand) htail, List.append_assoc] at this

/-! ## The obligations -/

/-- Settles O1: the codeword is that of a row of its table, no code of which begins another. -/
theorem codewordsDecode : Obligations.CodewordsDecode := by
  intro i code rest h
  obtain ⟨r, hr, operand, rfl, hlen, hbuild⟩ := hasRow i code h
  rw [decodeCodeword, classifyRows_append (prefixFree_rowsOf _) hr hlen, hbuild, List.length_append, hlen]

/-- Settles O4: unfinished bits agree with the code of a row, and then they go on to a codeword of that row; a
continuation's codeword has a code that the bits agree with. -/
theorem endOfStreamIffSomeContinuation : Obligations.EndOfStreamIffSomeContinuation := by
  intro c w hno
  rw [decodeCodeword, classifyRows_needMore_iff hno]
  constructor
  · rintro ⟨r, hr, hagree⟩
    obtain ⟨rest, m, hm⟩ := exists_matchRow_append hagree
    exact ⟨rest, classifyRows_found_iff.mpr ⟨r, hr, m, hm⟩⟩
  · rintro ⟨rest, hfound⟩
    obtain ⟨r, hr, m, hm⟩ := classifyRows_found_iff.mp hfound
    refine ⟨r, hr, ?_⟩
    by_contra hdis
    have := agrees_append_eq_false (Bool.eq_false_iff.mpr hdis) rest
    rw [agrees_of_matchRow hm] at this
    cases this

end Sys2Proof

/-! PROOFS. The packed codes and the host's requests (40_mdec_code.md R204, R212; 47_host_interface.md R658). -/

namespace Sys2Proof

open Machine

/-! ## Packed codes -/

/-- A packed word is decoded field by field, but for the end of block where it is one (40_mdec_code.md R212). -/
theorem decodePacked_pack (first : Bool) (c : Code) :
    decodePacked first c.pack =
      if first then .mdecDc c.top6 c.bottom10 else if c.isEob then .mdecEob else .mdecAc c.top6 c.bottom10 := by
  have hfields := Code.unpack_pack c
  have heob : c.pack = 0xFE00#16 ↔ c.isEob = true := by
    rw [Code.isEob_iff_eq_eobCode]
    refine ⟨fun h => ?_, fun h => h ▸ rfl⟩
    rw [← Code.unpack_pack c, h]
    rfl
  have htop : c.pack.extractLsb' 10 6 = c.top6 := congrArg Code.top6 hfields
  have hbottom : c.pack.extractLsb' 0 10 = c.bottom10 := congrArg Code.bottom10 hfields
  simp only [decodePacked, heob, htop, hbottom]

/-- Settles O2: the fields are read back, and a well-formed later code is not the end-of-block word. -/
theorem packedCodesDecode : Obligations.PackedCodesDecode := by
  intro i w hwf h
  cases i with
  | mdecEob => cases h; rfl
  | mdecDc q d =>
    cases h
    exact decodePacked_pack true ⟨q, d⟩
  | mdecAc r l =>
    cases h
    have heob : Code.isEob ⟨r, l⟩ = false := (Bool.not_eq_true' _).mp hwf
    calc decodePacked (contextOf (.mdecAc r l) == .codeFirst) (packWord r l)
        = decodePacked false (Code.pack ⟨r, l⟩) := rfl
      _ = .mdecAc r l := by
        rw [decodePacked_pack, heob, if_neg Bool.false_ne_true, if_neg Bool.false_ne_true]
  | _ => cases h

/-- Settles O5: words written out. -/
theorem sampleWordsDecode : Obligations.SampleWordsDecode := by
  refine ⟨by decide, by decide, by decide, by decide, by decide, by decide, by rfl, by rfl, ?outcomes, by decide⟩
  exact ⟨rfl, fun _ _ => rfl, fun _ => rfl, rfl, rfl, fun _ => rfl, fun _ _ => rfl⟩

/-! ## Numbers as bytes (log 27) -/

@[simp] theorem length_leBytes (n v : Nat) : (leBytes n v).length = n := by
  induction n generalizing v with
  | zero => rfl
  | succ n ih => simp [leBytes, ih]

/-- The bytes of a number that fits them write it. -/
theorem natOfLe_leBytes {n v : Nat} (h : v < 256 ^ n) : natOfLe (leBytes n v) = v := by
  induction n generalizing v with
  | zero => simpa [leBytes, natOfLe] using (Nat.lt_one_iff.mp h).symm
  | succ n ih =>
    have hdiv : v / 256 < 256 ^ n := Nat.div_lt_of_lt_mul (by rwa [Nat.pow_succ'] at h)
    rw [leBytes, natOfLe, ih hdiv, BitVec.toNat_ofNat]
    exact Nat.mod_add_div v 256

theorem int32Of_int32Bytes {v : Int} (h : fitsInt32 v = true) : int32Of (int32Bytes v) = v := by
  simp only [fitsInt32, Bool.and_eq_true, decide_eq_true_eq] at h
  obtain ⟨hlo, hhi⟩ := h
  have hfit : (BitVec.ofInt 32 v).toNat < 256 ^ 4 := (BitVec.ofInt 32 v).isLt
  rw [int32Of, int32Bytes, natOfLe_leBytes hfit, BitVec.ofNat_toNat, BitVec.setWidth_eq,
    BitVec.toInt_ofInt_eq_self (by decide) hlo (by omega)]

/-- The integers a request carries are read back, and what follows them is left. -/
theorem readInts_flatMap {vs : List Int} (h : ∀ v ∈ vs, fitsInt32 v = true) (rest : List Byte) :
    readInts vs.length (vs.flatMap int32Bytes ++ rest) = some (vs, rest) := by
  induction vs with
  | nil => rfl
  | cons v vs ih =>
    have hsplit : splitExact 4 (int32Bytes v ++ (vs.flatMap int32Bytes ++ rest)) =
        some (int32Bytes v, vs.flatMap int32Bytes ++ rest) := splitExact_eq_some.mpr ⟨rfl, length_leBytes 4 _⟩
    simp only [List.flatMap_cons, List.length_cons, List.append_assoc, readInts, hsplit,
      ih fun u hu => h u (List.mem_cons_of_mem _ hu), int32Of_int32Bytes (h v (List.mem_cons_self ..))]

/-- A size a request carries is split off whole. -/
theorem splitExact_leBytes (n v : Nat) (rest : List Byte) :
    splitExact n (leBytes n v ++ rest) = some (leBytes n v, rest) :=
  splitExact_eq_some.mpr ⟨rfl, length_leBytes n v⟩

theorem natOfLe_leBytes_of_fits {v : Nat} (h : fitsNat64 v = true) : natOfLe (leBytes 8 v) = v :=
  natOfLe_leBytes (of_decide_eq_true h)

/-! ## The operands of each command -/

theorem upsamplerOf_upsamplerBytes (u : Upsampler) :
    ∃ kind name, upsamplerBytes u = [kind, name] ∧ upsamplerOf kind name = some u := by
  cases u with
  | nearest => exact ⟨0#8, 0#8, rfl, rfl⟩
  | kernel k =>
    cases k with
    | bilinear => exact ⟨1#8, 0#8, rfl, rfl⟩
    | convolution name => exact ⟨2#8, name, rfl, rfl⟩

/-- A choice's byte is the bit of the choice. -/
theorem bitOfByte_ite (b : Bool) : bitOfByte (if b then 1#8 else 0#8) = some b := by
  cases b <;> rfl

theorem decodeConfigure_encode {width height : Int} (hw : fitsInt32 width = true) (hh : fitsInt32 height = true)
    (v : Variant) (merge : Bool) (u : Upsampler) :
    decodeConfigure (int32Bytes width ++ (int32Bytes height ++
      ((if v = .float then 1#8 else 0#8) :: (if merge then 1#8 else 0#8) :: upsamplerBytes u))) =
        some (.configure width height v merge u) := by
  obtain ⟨kind, name, hbytes, hu⟩ := upsamplerOf_upsamplerBytes u
  have hvs : ∀ x ∈ [width, height], fitsInt32 x = true := by simp [hw, hh]
  have hread := readInts_flatMap hvs ((if v = .float then 1#8 else 0#8) :: (if merge then 1#8 else 0#8) :: [kind, name])
  simp only [List.flatMap_cons, List.flatMap_nil, List.append_nil, List.append_assoc, List.length_cons,
    List.length_nil] at hread
  have hv : bitOfByte (if v = .float then 1#8 else 0#8) = some (decide (v = .float)) := by
    simpa using bitOfByte_ite (decide (v = .float))
  simp only [decodeConfigure, hbytes, hread, hv, bitOfByte_ite, hu]
  cases v <;> rfl

theorem decodeSetQuant_encode {table : List Int} (hlen : table.length = 64)
    (h : ∀ v ∈ table, fitsInt32 v = true) : decodeSetQuant (table.flatMap int32Bytes) = some (.setQuant table) := by
  have hread := readInts_flatMap h []
  rw [List.append_nil, hlen] at hread
  simp only [decodeSetQuant, hread]

theorem decodeReadRgb_encode {len offset stride : Nat} (hl : fitsNat64 len = true) (ho : fitsNat64 offset = true)
    (hs : fitsNat64 stride = true) :
    decodeReadRgb (leBytes 8 len ++ (leBytes 8 offset ++ leBytes 8 stride)) = some (.readRgb len offset stride) := by
  simp only [decodeReadRgb, splitExact_leBytes, length_leBytes, natOfLe_leBytes_of_fits hl, natOfLe_leBytes_of_fits ho,
    natOfLe_leBytes_of_fits hs, if_true]

theorem decodeReadYcbcr420_encode {len : Nat} (hl : fitsNat64 len = true) (space : Colorspace) :
    decodeReadYcbcr420 (leBytes 8 len ++ [if space = .rec601 then 1#8 else 0#8]) = some (.readYcbcr420 len space) := by
  have hspace : bitOfByte (if space = .rec601 then 1#8 else 0#8) = some (decide (space = .rec601)) := by
    simpa using bitOfByte_ite (decide (space = .rec601))
  simp only [decodeReadYcbcr420, splitExact_leBytes, hspace, natOfLe_leBytes_of_fits hl]
  cases space <;> rfl

/-- A request whose operand bytes its id's decoder reads back. -/
theorem decodeCommand_cons {id : Byte} {ops : List Byte} {i : Instr} (h : decodeOperands id ops = some (some i)) :
    decodeCommand (id :: ops) = .ok i := by
  simp only [decodeCommand, h]

/-- Settles O3: each command's operand bytes are read back, the id having chosen the decoder. -/
theorem commandsDecode : Obligations.CommandsDecode := by
  intro i bytes hwf h
  cases i with
  | configure w ht v m u =>
    cases h
    obtain ⟨hw, hh⟩ := Bool.and_eq_true_iff.mp hwf
    exact decodeCommand_cons (congrArg some (decodeConfigure_encode hw hh v m u))
  | setQuant table =>
    cases h
    obtain ⟨hlen, hall⟩ := Bool.and_eq_true_iff.mp hwf
    exact decodeCommand_cons (congrArg some (decodeSetQuant_encode (beq_iff_eq.mp hlen) (List.all_eq_true.mp hall)))
  | readRgb len offset stride =>
    cases h
    obtain ⟨hlo, hs⟩ := Bool.and_eq_true_iff.mp hwf
    obtain ⟨hl, ho⟩ := Bool.and_eq_true_iff.mp hlo
    exact decodeCommand_cons (congrArg some (decodeReadRgb_encode hl ho hs))
  | readYcbcr420 len space =>
    cases h
    exact decodeCommand_cons (congrArg some (decodeReadYcbcr420_encode hwf space))
  | loadFrame | readCode | decodeFrame | queryStatus => cases h; rfl
  | _ => cases h

end Sys2Proof

/-! PROOFS. The step (47_host_interface.md R649, R653, R654, R658; 70_reset_and_hazards.md R770, R779). -/

namespace Sys2Proof.Machine

/-! ## Inside an operation -/

/-- A code that waits is fetched as the packed code it is at its position (47_host_interface.md R653). -/
theorem fetchStream_of_emitted {s : State} {e : Emitted} (he : s.emitted = some e) :
    fetchStream s = .ok (.instr (decodePacked e.first e.code.pack)) := by
  simp only [fetchStream, he]

/-- Without a code that waits, the codeword of the context is read from the upcoming bits (47_host_interface.md R649). -/
theorem fetchStream_of_context {s : State} {c : Context} {body : Nat} (hc : context s = .ok c)
    (hbody : s.hdr.body = some body) : fetchStream s = fetchCodeword s c (peek s body (windowOf c)) := by
  simp only [fetchStream, (context_reading hc).emitted, hc, hbody]

/-- Inside an operation a step runs what is fetched. -/
theorem step_of_fetched {s : State} {f : Fetched} (hrun : s.running ≠ .idle) (hf : fetchStream s = .ok f) :
    step s = runFetched exec f s := by
  simp only [step, if_neg hrun, operationStep, hf]

/-- The cause of upcoming bits that begin no codeword of the default tables (60_exceptions.md R702). -/
def unmatchedCause (c : Context) : Cause := if c = .ac then .unmatchedVlc else .unmatchedDc

/-- With the default tables in use the upcoming bits are classified against the table of the context
(43_entropy_ac.md R351). -/
theorem fetchCodeword_default {s : State} {c : Context} (ht : s.DefaultTables) (hc : context s = .ok c)
    (hmain : c ≠ .acTitle) (w : Bits) : fetchCodeword s c w = .ok (fetchDefault (unmatchedCause c) c w) := by
  cases c with
  | dcShared => simp only [fetchCodeword, ht.ownDc]; rfl
  | dcLuma => simp only [fetchCodeword, fetchDcDiff, ht.ownDc, ht.luma]; rfl
  | dcChroma => simp only [fetchCodeword, fetchDcDiff, ht.ownDc, ht.chroma]; rfl
  | ac => simp only [fetchCodeword, ht.vlc]; rfl
  | acTitle => exact absurd rfl hmain
  | codeFirst | codeLater | command =>
    unfold context at hc
    repeat' split at hc
    all_goals cases hc

/-- A mainline context has the window of the longest codeword (20_memory.md R110). -/
theorem windowOf_of_ne_acTitle {c : Context} (h : c ≠ .acTitle) : windowOf c = window := by
  cases c with
  | acTitle => exact absurd rfl h
  | dcShared | dcLuma | dcChroma | ac | codeFirst | codeLater | command => rfl

/-- Inside an operation with the default tables a step runs what the upcoming bits are classified as. -/
theorem step_default {s : State} {c : Context} {body : Nat} (ht : s.DefaultTables) (hc : context s = .ok c)
    (hmain : c ≠ .acTitle) (hbody : s.hdr.body = some body) :
    step s = runFetched exec (fetchDefault (unmatchedCause c) c (peek s body window)) s := by
  refine step_of_fetched (context_reading hc).running ?_
  rw [fetchStream_of_context hc hbody, fetchCodeword_default ht hc hmain, windowOf_of_ne_acTitle hmain]

/-- Settles O6: the upcoming bits are classified as the codeword they begin with. -/
theorem stepRunsTheCodeword : Obligations.StepRunsTheCodeword := by
  intro s c body n i ht _ hc hmain hbody hfound
  rw [step_default ht hc hmain hbody, fetchDefault, hfound]
  rfl

/-- Settles O7: the code that waits is fetched before any codeword. -/
theorem stepRunsThePackedCode : Obligations.StepRunsThePackedCode := by
  intro s e hrun he
  rw [step_of_fetched hrun (fetchStream_of_emitted he)]
  rfl

/-! ## Between operations -/

/-- Between operations a step takes the next request (70_reset_and_hazards.md R770). -/
theorem step_of_idle {s : State} (h : s.running = .idle) : step s = hostStep exec s := if_pos h

/-- Settles O8: the first request is taken from the queue and decoded. -/
theorem stepRunsTheRequest : Obligations.StepRunsTheRequest := by
  intro s hidle
  rw [step_of_idle hidle]
  refine ⟨fun hnone => ?_, fun request rest hreq => ⟨fun i hi => ?_, fun e he => ?_⟩⟩
  · simp only [hostStep, nextRequest, hnone]
  · simp only [hostStep, nextRequest, hreq, hi]
  · simp only [hostStep, nextRequest, hreq, he, refuse]

end Sys2Proof.Machine

/-! PROOFS. The host's commands between operations (47_host_interface.md R650 to R657). -/

namespace Sys2Proof.Machine

/-! ## What each command does when no operation runs -/

/-- SET_QUANT between operations (47_host_interface.md R651). -/
theorem exec_setQuant_of_idle {s : State} (h : s.running = .idle) (table : List Int) :
    exec (.setQuant table) s =
      if s.configured = false then refuse s
      else match quantEntries table with
        | none => refuse s
        | some entries =>
          if h : entries.length = 64 then .next { s with qt := ⟨entries.toArray, by simp [h]⟩, reply := some .ok }
          else refuse s :=
  whenIdle_of_idle h _

/-- LOAD_FRAME between operations, once configured (47_host_interface.md R652). -/
theorem exec_loadFrame_of_idle {s : State} (h : s.running = .idle) (hconf : s.configured = true) (bytes : List Byte) :
    exec (.loadFrame bytes) s =
      match (identify (frameStart bytes s)).error with
      | some (cause, value) =>
        .next { recordError (.readCorruption cause (headerCtx (identify (frameStart bytes s)).state value))
            (identify (frameStart bytes s)).state with
          reply := some (.readCorruption cause (headerCtx (identify (frameStart bytes s)).state value)) }
      | none => .next { beginStream (identify (frameStart bytes s)).state with reply := some .ok } := by
  have hnot : ¬ s.configured = false := by simp [hconf]
  exact (whenIdle_of_idle h _).trans (if_neg hnot)

/-- READ_CODE between operations: refused, at the end of a frame, or its loop (47_host_interface.md R653). -/
theorem exec_readCode_of_idle {s : State} (h : s.running = .idle) :
    exec .readCode s =
      if s.configured = false ∨ s.dstate = .idle ∨ s.frameMode = .pixels then refuse s
      else if s.dstate = .done then .next { s with frameMode := .codes, reply := some .done }
      else if s.dstate = .failed then returnRecorded { s with frameMode := .codes }
      else runLoop (loopFuel s) (startLoop .readCode { s with frameMode := .codes }) := by
  refine (whenIdle_of_idle h _).trans ?_
  cases hd : s.dstate <;> rfl

/-- DECODE_FRAME between operations: refused, at the end of a frame, or its loop (47_host_interface.md R654). -/
theorem exec_decodeFrame_of_idle {s : State} (h : s.running = .idle) :
    exec .decodeFrame s =
      if s.configured = false ∨ s.dstate = .idle ∨ s.frameMode ≠ .none then refuse s
      else if s.dstate = .failed then returnRecorded (zeroFillFrom 0 .cr { s with frameMode := .pixels })
      else if s.dstate = .done then .next (finish .ok (endFrame { s with frameMode := .pixels }))
      else runLoop (loopFuel s) (startLoop .decodeFrame { s with frameMode := .pixels }) := by
  refine (whenIdle_of_idle h _).trans ?_
  cases hd : s.dstate <;> rfl

/-- READ_RGB between operations (47_host_interface.md R655). -/
theorem exec_readRgb_of_idle {s : State} (h : s.running = .idle) (len offset stride : Nat) :
    exec (.readRgb len offset stride) s =
      if s.configured = false then refuse s
      else if stride < s.cfg.width.toNat ∨
          offset + (s.cfg.height.toNat - 1) * stride + s.cfg.width.toNat > len then refuse s
      else .next { s with outRgb := rgbWrites s offset stride s.outRgb, reply := some .ok } :=
  whenIdle_of_idle h _

/-- READ_YCBCR420 between operations (47_host_interface.md R656). -/
theorem exec_readYcbcr420_of_idle {s : State} (h : s.running = .idle) (len : Nat) (space : Colorspace) :
    exec (.readYcbcr420 len space) s =
      if s.configured = false then refuse s
      else if s.cfg.width.toNat % 2 = 1 ∨ s.cfg.height.toNat % 2 = 1 then refuse s
      else if yuvLength s.cfg > len then refuse s
      else .next { s with outYuv := writeFrom (yuvOutput s space) 0 s.outYuv, reply := some .ok } :=
  whenIdle_of_idle h _

/-! ## SET_QUANT's table -/

/-- The entries of a table are its values as bytes, if all of them are in 0..255 (47_host_interface.md R651). -/
theorem quantEntries_eq_some {table : List Int} {entries : List Byte} :
    quantEntries table = some entries ↔
      (∀ v ∈ table, 0 ≤ v ∧ v ≤ 255) ∧ entries = table.map (BitVec.ofInt 8) := by
  induction table generalizing entries with
  | nil => simp [quantEntries, eq_comm]
  | cons v vs ih =>
    by_cases hv : 0 ≤ v ∧ v ≤ 255
    · have hentry : quantEntry v = some (BitVec.ofInt 8 v) := if_pos hv
      cases hvs : quantEntries vs with
      | none =>
        have hno : ¬ ∀ u ∈ vs, 0 ≤ u ∧ u ≤ 255 := fun h => by simp [ih.mpr ⟨h, rfl⟩] at hvs
        simp only [quantEntries, hentry, hvs, List.forall_mem_cons, hno, and_false, false_and, reduceCtorEq]
      | some bs =>
        obtain ⟨hall, rfl⟩ := ih.mp hvs
        have hcons : ∀ u ∈ v :: vs, 0 ≤ u ∧ u ≤ 255 := List.forall_mem_cons.mpr ⟨hv, hall⟩
        simp only [quantEntries, hentry, hvs, List.map_cons, Option.some.injEq]
        exact ⟨fun h => ⟨hcons, h.symm⟩, fun h => h.2.symm⟩
    · have hentry : quantEntry v = none := if_neg hv
      simp only [quantEntries, hentry, List.forall_mem_cons, hv, false_and, reduceCtorEq]

/-- Settles O35: the entries are the table's values as bytes, 64 of them. -/
theorem setQuantWritesQt : Obligations.SetQuantWritesQt := by
  intro table s hidle hconf hlen hall
  have hentries := quantEntries_eq_some.mpr ⟨hall, rfl⟩
  have h64 : (table.map (BitVec.ofInt 8)).length = 64 := by rw [List.length_map, hlen]
  refine ⟨⟨(table.map (BitVec.ofInt 8)).toArray, by rw [List.size_toArray, h64]⟩, fun k => ?_, ?_⟩
  · have hk : k.val < table.length := by rw [hlen]; exact k.isLt
    obtain ⟨h0, h255⟩ := hall _ (List.getElem_mem hk)
    have hbyte : ((BitVec.ofInt 8 table[k.val]).toNat : Int) = table[k.val] := by
      rw [BitVec.toNat_ofInt]
      omega
    rw [List.getD_eq_getElem _ _ hk, ← hbyte]
    simp
  · rw [exec_setQuant_of_idle hidle, if_neg (by simp [hconf]), hentries]
    exact dif_pos h64

/-! ## Refusals -/

/-- Settles O34: each refusal is the first branch its command takes. -/
theorem illegalCommandsAreRefused : Obligations.IllegalCommandsAreRefused := by
  intro i s hidle h
  rcases h with ⟨w, ht, v, m, u, rfl, h⟩ | ⟨table, rfl, h⟩ | ⟨bytes, rfl, h⟩ | ⟨rfl, h⟩ | ⟨rfl, h⟩ |
    ⟨len, offset, stride, rfl, h⟩ | ⟨len, space, rfl, h⟩
  · rw [exec_configure_of_idle hidle]
    by_cases hsize : 1 ≤ w ∧ w ≤ s.params.maxDim.toNat ∧ 1 ≤ ht ∧ ht ≤ s.params.maxDim.toNat
    · have hkernel : ∃ k, u = .kernel k ∧ k ∉ s.params.kernels := by
        rcases h with h | h | h | h | h
        · omega
        · omega
        · omega
        · omega
        · exact h
      obtain ⟨k, rfl, hk⟩ := hkernel
      have hnot : upsamplerDefined s.params (.kernel k) = false := by simp [upsamplerDefined, hk]
      rw [if_neg (not_not_intro hsize), if_pos hnot, refuse]
    · rw [if_pos hsize, refuse]
  · rw [exec_setQuant_of_idle hidle]
    by_cases hconf : s.configured = false
    · rw [if_pos hconf, refuse]
    rw [if_neg hconf]
    cases hentries : quantEntries table with
    | none => rfl
    | some entries =>
      obtain ⟨hall, rfl⟩ := quantEntries_eq_some.mp hentries
      have hlen : ¬ (table.map (BitVec.ofInt 8)).length = 64 := by
        rw [List.length_map]
        rcases h with h | h | ⟨v, hv, h⟩
        · exact absurd h hconf
        · exact h
        · have := hall v hv
          omega
      exact dif_neg hlen
  · exact (whenIdle_of_idle hidle _).trans (if_pos h)
  · rw [exec_readCode_of_idle hidle, if_pos h, refuse]
  · rw [exec_decodeFrame_of_idle hidle, if_pos h, refuse]
  · rw [exec_readRgb_of_idle hidle]
    by_cases hconf : s.configured = false
    · rw [if_pos hconf, refuse]
    · rw [if_neg hconf, if_pos (h.resolve_left hconf), refuse]
  · rw [exec_readYcbcr420_of_idle hidle]
    by_cases hconf : s.configured = false
    · rw [if_pos hconf, refuse]
    rw [if_neg hconf]
    by_cases hodd : s.cfg.width.toNat % 2 = 1 ∨ s.cfg.height.toNat % 2 = 1
    · rw [if_pos hodd, refuse]
    · have hlen : yuvLength s.cfg > len := by
        rcases h with h | h | h | h
        · exact absurd h hconf
        · exact absurd (.inl h) hodd
        · exact absurd (.inr h) hodd
        · exact h
      rw [if_neg hodd, if_pos hlen, refuse]

/-- Settles O50: at power-on no core is configured, and every command but the two is refused for that alone. -/
theorem powerOn : Obligations.PowerOn := by
  refine ⟨rfl, rfl, rfl, fun i hcmd hconfigure hquery => ?_⟩
  have hnot : State.reset.configured = false := rfl
  refine illegalCommandsAreRefused i State.reset rfl ?_
  cases i with
  | configure w h v m u => exact absurd rfl (hconfigure w h v m u)
  | queryStatus => exact absurd rfl hquery
  | setQuant table => exact .inr (.inl ⟨table, rfl, .inl hnot⟩)
  | loadFrame bytes => exact .inr (.inr (.inl ⟨bytes, rfl, hnot⟩))
  | readCode => exact .inr (.inr (.inr (.inl ⟨rfl, .inl hnot⟩)))
  | decodeFrame => exact .inr (.inr (.inr (.inr (.inl ⟨rfl, .inl hnot⟩))))
  | readRgb len offset stride => exact .inr (.inr (.inr (.inr (.inr (.inl ⟨len, offset, stride, rfl, .inl hnot⟩)))))
  | readYcbcr420 len space => exact .inr (.inr (.inr (.inr (.inr (.inr ⟨len, space, rfl, .inl hnot⟩)))))
  | _ => cases hcmd

/-- A recorded error is the answer again (60_exceptions.md R712). -/
theorem returnRecorded_eq {s : State} {r : Reply} (h : recordedReply s = some r) :
    returnRecorded s = .next { s with reply := some r } := by
  simp only [returnRecorded, h]

/-- Settles O40: neither end starts the loop, and a failed frame has an error recorded. -/
theorem readCodeAfterTheEnd : Obligations.ReadCodeAfterTheEnd := by
  intro s hinv hidle hconf hmode
  have hlegal (hd : s.dstate ≠ .idle) : ¬ (s.configured = false ∨ s.dstate = .idle ∨ s.frameMode = .pixels) := by
    simp [hconf, hd, hmode]
  refine ⟨fun hdone => ?_, fun hfailed => ?_⟩
  · rw [exec_readCode_of_idle hidle, if_neg (hlegal (by simp [hdone])), if_pos hdone]
  · obtain ⟨r, hr⟩ := Option.ne_none_iff_exists'.mp (hinv.recorded hfailed)
    refine ⟨r, hr, ?_⟩
    rw [exec_readCode_of_idle hidle, if_neg (hlegal (by simp [hfailed])), if_neg (by simp [hfailed]),
      if_pos hfailed]
    exact returnRecorded_eq (s := { s with frameMode := .codes }) hr

end Sys2Proof.Machine

/-! PROOFS. LOAD_FRAME (41_entropy_header.md R251 to R258; 47_host_interface.md R652). -/

namespace Sys2Proof.Machine

/-! ## Identification -/

/-- The first layout tried is the mainline one at base 0 (41_entropy_header.md R251). -/
theorem identify_mainline {s : State} (hlen : 8 ≤ s.inBuf.length) (hmarker : memRead16 s.inBuf 2 = some 0x3800#16) :
    identify s = match (parseMainline 0 s).error with
      | some e => ⟨(parseMainline 0 s).state, some e⟩
      | none => ⟨{ (parseMainline 0 s).state with
          fmt := some (mainlineFormat (parseMainline 0 s).state.hdr.dcMode) }, none⟩ :=
  if_pos ⟨hlen, hmarker⟩

/-- The second is the mainline one behind forty bytes (41_entropy_header.md R251). -/
theorem identify_prefix40 {s : State} (hno : 8 ≤ s.inBuf.length → memRead16 s.inBuf 2 ≠ some 0x3800#16)
    (hlen : 48 ≤ s.inBuf.length) (hmarker : memRead16 s.inBuf 42 = some 0x3800#16) :
    identify s = parseMainline 40 { s with fmt := some .prefix40 } :=
  (if_neg fun h => hno h.1 h.2).trans (if_pos ⟨hlen, hmarker⟩)

/-- A buffer of neither layout is a title format's or none's (41_entropy_header.md R251). -/
theorem identify_title {s : State} (hno : 8 ≤ s.inBuf.length → memRead16 s.inBuf 2 ≠ some 0x3800#16)
    (hno40 : 48 ≤ s.inBuf.length → memRead16 s.inBuf 42 ≠ some 0x3800#16) :
    identify s = match matchTitle s with
      | some f => parseTitle f s
      | none => ⟨s, some (.unrecognizedHeader,
          if 4 ≤ s.inBuf.length then (memRead16 s.inBuf 2).map (fun w => .number w.toNat) else none)⟩ :=
  (if_neg fun h => hno h.1 h.2).trans (if_neg fun h => hno40 h.1 h.2)

/-! ## The mainline parse -/

/-- The versions of the shared scheme (41_entropy_header.md R255). -/
def SharedVersion (p : Params) (version : Half) : Prop := version = 2#16 ∨ version ∈ p.extraSharedVersions

/-- The scheme a version number stands for (41_entropy_header.md R255). -/
def versionMode (version : Half) : DcMode := if version = 3#16 then .diff else .shared

/-- The header's qscale word is that of a qscale of six bits (41_entropy_header.md R255). -/
theorem qscaleWord_ne_zero {q : BitVec 6} (h : q ≠ 0#6) : q.setWidth 16 ≠ 0#16 := by
  intro h0
  refine h (BitVec.eq_of_toNat_eq ?_)
  have := congrArg BitVec.toNat h0
  simpa [Nat.mod_eq_of_lt (Nat.lt_trans q.isLt (by decide : 2 ^ 6 < 65536))] using this

theorem toNat_qscaleWord (q : BitVec 6) : (q.setWidth 16).toNat = q.toNat := by
  rw [BitVec.toNat_setWidth]
  exact Nat.mod_eq_of_lt (Nat.lt_trans q.isLt (by decide))

/-- A good header fills `HDR` (41_entropy_header.md R255). -/
theorem parseMainline_good {s : State} {b : Nat} {q : BitVec 6} {version : Half}
    (hq : memRead16 s.inBuf (b + 4) = some (q.setWidth 16)) (hv : memRead16 s.inBuf (b + 6) = some version)
    (hne : q ≠ 0#6) (hversion : version = 3#16 ∨ SharedVersion s.params version) :
    parseMainline b s = ⟨{ s with hdr := ⟨memRead16 s.inBuf b, memRead16 s.inBuf (b + 2), some q, some q, some version,
      some (versionMode version), some .main, some (b + 8)⟩ }, none⟩ := by
  have hrange : ¬ (q.setWidth 16).toNat > 63 := by rw [toNat_qscaleWord]; have := q.isLt; omega
  have hback : (q.setWidth 16).setWidth 6 = q := by
    rw [BitVec.setWidth_setWidth_of_le _ (by decide), BitVec.setWidth_eq]
  have hgood : version = 3#16 ∨ version = 2#16 ∨ s.params.extraSharedVersions.contains version = true := by
    simpa only [SharedVersion, List.contains_iff_mem] using hversion
  simp only [parseMainline, hq, hv, Option.getD_some, if_neg (qscaleWord_ne_zero hne), if_neg hrange, if_pos hgood,
    hback, versionMode]

/-- The first failing check of a bad header: zero qscale, qscale range, version (41_entropy_header.md R255). -/
inductive BadHeader (p : Params) (q version : Half) : Cause → CtxValue → Prop where
  | zeroQscale : q = 0#16 → BadHeader p q version .zeroQscale (.number 0)
  | qscaleRange : 63 < q.toNat → BadHeader p q version .qscaleRange (.number q.toNat)
  | badVersion : q ≠ 0#16 → q.toNat ≤ 63 → version ≠ 3#16 → ¬ SharedVersion p version →
      BadHeader p q version .badVersion (.number version.toNat)

/-- A bad header leaves the marker and the count it has written, and its error (41_entropy_header.md R255; log 18). -/
theorem parseMainline_bad {s : State} {b : Nat} {q version : Half} {cause : Cause} {value : CtxValue}
    (hq : memRead16 s.inBuf (b + 4) = some q) (hv : memRead16 s.inBuf (b + 6) = some version)
    (hbad : BadHeader s.params q version cause value) :
    parseMainline b s =
      ⟨{ s with hdr := { s.hdr with rlcCount := memRead16 s.inBuf b, marker := memRead16 s.inBuf (b + 2) } },
        some (cause, some value)⟩ := by
  cases hbad with
  | zeroQscale h0 => simp [parseMainline, hq, h0]
  | qscaleRange hr =>
    have hne : q ≠ 0#16 := fun h => by simp [h] at hr
    simp [parseMainline, hq, hne, hr]
  | badVersion hne hr h3 hshared =>
    have hno : ¬ (version = 3#16 ∨ version = 2#16 ∨ s.params.extraSharedVersions.contains version = true) := by
      simpa only [SharedVersion, List.contains_iff_mem, not_or] using ⟨h3, not_or.mp hshared⟩
    simp only [parseMainline, hq, hv, Option.getD_some, if_neg hne, if_neg (Nat.not_lt.mpr hr), if_neg hno]

/-! ## The frame begun -/

/-- A frame of a configured size has a macroblock (10_state.md R54). -/
theorem Cfg.mbCount_pos {c : Cfg} (hw : 1 ≤ c.width.toNat) (hh : 1 ≤ c.height.toNat) : 0 < c.mbCount :=
  Nat.mul_pos (Nat.div_pos (by omega) (by decide)) (Nat.div_pos (by omega) (by decide))

/-- The bit reader is set up and the frame ACTIVE, with a warning of an odd byte (20_memory.md R106). -/
theorem beginStream_eq {s : State} {body : Nat} (hbody : s.hdr.body = some body) (hcount : 0 < s.cfg.mbCount)
    (hwarn : s.status = Status.clear) :
    beginStream s = { s with
      bitPos := 0
      streamBits := 16 * ((s.inBuf.length - body) / 2)
      dstate := .active
      status := ⟨.none, none, none, ⟨decide ((s.inBuf.length - body) % 2 = 1), false⟩, 0⟩ } := by
  by_cases hodd : (s.inBuf.length - body) % 2 = 1 <;>
    simp [beginStream, hbody, hcount.ne', hwarn, hodd, warnPartialUnit, Status.clear]

/-- The header of a frame of the mainline layout, at its base (41_entropy_header.md R255). -/
def mainlineHeader (b : Nat) (mode : DcMode) (rlc version : Half) (q : BitVec 6) : Hdr :=
  ⟨some rlc, some 0x3800#16, some q, some q, some version, some mode, some .main, some (b + 8)⟩

/-- LOAD_FRAME of a frame whose header parses well (47_host_interface.md R652). -/
theorem exec_loadFrame_good {s u : State} {bytes : List Byte} {b : Nat} {fmt : Fmt} {q : BitVec 6}
    {rlc version : Half} {mode : DcMode} (hidle : s.running = .idle) (hconf : s.configured = true)
    (hw : 1 ≤ s.cfg.width.toNat) (hh : 1 ≤ s.cfg.height.toNat) (hident : identify (frameStart bytes s) = ⟨u, none⟩)
    (hu : u = { frameStart bytes s with fmt := some fmt, hdr := mainlineHeader b mode rlc version q }) :
    exec (.loadFrame bytes) s = .next (loadedFrame s bytes b fmt mode rlc version q) := by
  have hbegin := beginStream_eq (s := u) (body := b + 8) (by rw [hu]; rfl) (by rw [hu]; exact Cfg.mbCount_pos hw hh)
    (by rw [hu]; rfl)
  rw [exec_loadFrame_of_idle hidle hconf, hident]
  simp only [hbegin]
  rw [hu]
  rfl

/-- Settles O36: the header stands where it is looked for first, and its checks pass. -/
theorem loadFrameMainline : Obligations.LoadFrameMainline := by
  intro bytes rlc version q s hidle hconf hw hh hlen hrlc hmarker hq hv hne
  have hident (hversion : version = 3#16 ∨ SharedVersion s.params version) :
      identify (frameStart bytes s) = ⟨{ frameStart bytes s with
        fmt := some (mainlineFormat (some (versionMode version)))
        hdr := mainlineHeader 0 (versionMode version) rlc version q }, none⟩ := by
    have hparse := parseMainline_good (s := frameStart bytes s) (b := 0) hq hv hne hversion
    rw [identify_mainline hlen hmarker, hparse]
    simp only [show (frameStart bytes s).inBuf = bytes from rfl, hrlc, hmarker, mainlineHeader]
  refine ⟨fun h3 => ?_, fun h3 hshared => ?_⟩
  · have := hident (.inl h3)
    rw [versionMode, if_pos h3] at this
    exact exec_loadFrame_good hidle hconf hw hh this rfl
  · have := hident (.inr hshared)
    rw [versionMode, if_neg h3] at this
    exact exec_loadFrame_good hidle hconf hw hh this rfl

/-- Settles O37: without a marker at offset 2 the header behind forty bytes is looked for. -/
theorem loadFramePrefix40 : Obligations.LoadFramePrefix40 := by
  intro bytes rlc version q s hidle hconf hw hh hlen hno hrlc hmarker hq hv hne
  have hident (hversion : version = 3#16 ∨ SharedVersion s.params version) :
      identify (frameStart bytes s) = ⟨{ frameStart bytes s with
        fmt := some .prefix40
        hdr := mainlineHeader 40 (versionMode version) rlc version q }, none⟩ := by
    have hparse := parseMainline_good (s := { frameStart bytes s with fmt := some .prefix40 }) (b := 40) hq hv hne hversion
    rw [identify_prefix40 (fun _ => hno) hlen hmarker, hparse]
    simp only [show (frameStart bytes s).inBuf = bytes from rfl, hrlc, hmarker, mainlineHeader]
  refine ⟨fun h3 => ?_, fun h3 hshared => ?_⟩
  · have := hident (.inl h3)
    rw [versionMode, if_pos h3] at this
    exact exec_loadFrame_good hidle hconf hw hh this rfl
  · have := hident (.inr hshared)
    rw [versionMode, if_neg h3] at this
    exact exec_loadFrame_good hidle hconf hw hh this rfl

/-! ## Bad headers -/

/-- The identification of a buffer whose header fails a check (41_entropy_header.md R251, R255; log 18). -/
theorem identify_bad {s : State} {base : Nat} {fmt : Option Fmt} {q version : Half} {cause : Cause} {value : CtxValue}
    (hfmt : s.fmt = none)
    (hbase : (base = 0 ∧ fmt = none ∧ 8 ≤ s.inBuf.length) ∨
      (base = 40 ∧ fmt = some .prefix40 ∧ 48 ≤ s.inBuf.length ∧ memRead16 s.inBuf 2 ≠ some 0x3800#16))
    (hmarker : memRead16 s.inBuf (base + 2) = some 0x3800#16) (hq : memRead16 s.inBuf (base + 4) = some q)
    (hv : memRead16 s.inBuf (base + 6) = some version) (hbad : BadHeader s.params q version cause value) :
    identify s = ⟨{ s with
      fmt := fmt
      hdr := { s.hdr with rlcCount := memRead16 s.inBuf base, marker := memRead16 s.inBuf (base + 2) } },
        some (cause, some value)⟩ := by
  rcases hbase with ⟨rfl, rfl, hlen⟩ | ⟨rfl, rfl, hlen, hno⟩
  · rw [identify_mainline hlen hmarker, parseMainline_bad hq hv hbad, ← hfmt]
  · rw [identify_prefix40 (fun _ => hno) hlen hmarker]
    exact parseMainline_bad (s := { s with fmt := some .prefix40 }) hq hv hbad

/-- Settles O38: the first failing check is the error of the identification, which LOAD_FRAME records and returns. -/
theorem loadFrameBadHeader : Obligations.LoadFrameBadHeader := by
  intro bytes base fmt q version cause value s hidle hconf hbase hmarker hq hv hchecks
  have hbad : BadHeader s.params q version cause value := by
    rcases hchecks with ⟨h0, rfl, rfl⟩ | ⟨hr, rfl, rfl⟩ | ⟨hne, hr, h3, h2, hextra, rfl, rfl⟩
    · exact .zeroQscale h0
    · exact .qscaleRange hr
    · exact .badVersion hne hr h3 (not_or.mpr ⟨h2, hextra⟩)
  have hident := identify_bad (s := frameStart bytes s) rfl hbase hmarker hq hv hbad
  rw [exec_loadFrame_of_idle hidle hconf, hident]
  exact ⟨_, rfl, rfl, rfl, rfl, rfl, rfl, rfl, rfl, rfl, rfl, rfl, rfl, rfl, rfl, rfl, rfl⟩

/-- Settles O39: neither layout nor a title format's match applies. -/
theorem loadFrameUnrecognized : Obligations.LoadFrameUnrecognized := by
  intro bytes ctx s hidle hconf hno hno40 htitles hctx
  have hnone : matchTitle (frameStart bytes s) = none :=
    List.find?_eq_none.mpr fun f hf => by simpa using htitles f hf
  have hident := identify_title (s := frameStart bytes s) hno hno40
  rw [hnone] at hident
  rw [exec_loadFrame_of_idle hidle hconf, hident, hctx]
  exact ⟨_, rfl, rfl, rfl, rfl, rfl⟩

end Sys2Proof.Machine

/-! PROOFS. What a codeword does where it is read (42_entropy_dc.md R300 to R306; 43_entropy_ac.md R351 to R367). -/

namespace Sys2Proof.Machine

/-! ## Complete codewords -/

/-- The run of a VLC row fits its operand. -/
theorem VlcWord.toNat_run {i : Instr} {w : VlcWord} (h : vlcWord? i = some w) :
    (BitVec.ofNat 6 w.run).toNat = w.run := by
  obtain ⟨hrun, -⟩ := vlcWord_bounds h
  rw [BitVec.toNat_ofNat]
  omega

/-- Settles O12: with its bits in the stream and the position within the block, the code is emitted, and its run is
below 63, so that it is not the end of block. -/
theorem vlcCodewordsComplete : Obligations.VlcCodewordsComplete := by
  intro i w s hw hs hbits hpos
  have hrun := VlcWord.toNat_run hw
  have hterm : isTerminal s.trk.firstOfBlock ⟨BitVec.ofNat 6 w.run, w.level⟩ = false := by
    rw [hs.isTerminal_eq, isEob_eq_false (by omega)]
  rw [exec_vlc hw, acCodeword_eq hs.context_eq (List.mem_singleton_self _), hrun, if_neg (by omega), if_neg (by omega),
    if_neg (by simp)]
  exact congrArg Host.Outcome.next (emit_code hterm)

/-- Settles O14: beyond 63 the run check raises before `VPOS` moves; else the codeword is emitted or, an escape of level
zero, raises from the state with the new position. -/
theorem runCheck : Obligations.RunCheck := by
  intro i w s hw hs hbits
  rw [exec_ac hw, acCodeword_eq hs.context_eq (List.mem_singleton_self _), if_neg (Nat.not_lt.mpr hbits)]
  refine ⟨fun hover => ?_, fun hrun => ?_⟩
  · rw [if_pos hover]
    exact ⟨_, rfl, raiseCorruption_frameFails _ _ _ _⟩
  · rw [if_neg (Nat.not_lt.mpr hrun)]
    split
    · exact ⟨_, rfl, (raiseCorruption_frameFails _ _ _ _).vpos_eq⟩
    · exact ⟨_, rfl, emit_vpos ..⟩

/-- The predictors after a differential DC: that of the role has the new value (42_entropy_dc.md R302, R303). -/
theorem PrevDc.set_get_add (p : PrevDc) (delta : Int) (r : Role) :
    p.set (p.get r + delta) r = ⟨if r = .cr then p.cr + delta else p.cr, if r = .cb then p.cb + delta else p.cb,
      if r.isLuma then p.y + delta else p.y⟩ := by
  cases r <;> rfl

/-- Settles O17: with the reconstructed DC in range it is emitted as a first code, which is never terminal. -/
theorem diffDcCodewordsComplete : Obligations.DiffDcCodewordsComplete := by
  intro i w q s hw hs hc hbits hlo hhi
  have hset := PrevDc.set_get_add s.prevDc (4 * w.delta) s.trk.role
  refine ⟨s.prevDc.set (s.prevDc.get s.trk.role + 4 * w.delta) s.trk.role, by rw [hset], by rw [hset], by rw [hset], ?_⟩
  rw [hs.exec_dcDiff hw hc, if_neg (Nat.not_lt.mpr hbits), if_neg (by omega)]
  exact congrArg Host.Outcome.next (emit_code (hs.isTerminal_eq _))

/-! ## The four shapes of a codeword -/

/-- What a codeword instruction of so many bits is: a row of one of the tables. -/
inductive CodewordShape (i : Instr) (len : Nat) : Prop where
  | dcShared (d : BitVec 10) (hi : i = .dcShared d) (hlen : len = 10)
  | dcDiff (w : DcWord) (hw : dcWord? i = some w) (hc : contextOf i = w.context) (hlen : len = w.bits)
  | acEob (hi : i = .acEob) (hlen : len = 2)
  | ac (w : AcWord) (hw : acWord? i = some w) (hc : contextOf i = .ac) (hlen : len = w.bits)

theorem codewordShape {i : Instr} {code : Bits} (h : encode i = .codeword code) : CodewordShape i code.length := by
  cases i with
  | mdecEob | mdecDc | mdecAc | configure | setQuant | loadFrame | readCode | decodeFrame | readRgb | readYcbcr420
  | queryStatus => cases h
  | dcShared d => cases h; exact .dcShared d rfl rfl
  | dcDiffYS0 | dcDiffYS1 | dcDiffYS2 | dcDiffYS3 | dcDiffYS4 | dcDiffYS5 | dcDiffYS6 | dcDiffYS7 | dcDiffYS8
  | dcDiffCS0 | dcDiffCS1 | dcDiffCS2 | dcDiffCS3 | dcDiffCS4 | dcDiffCS5 | dcDiffCS6 | dcDiffCS7 | dcDiffCS8 =>
    cases h; exact .dcDiff _ rfl rfl rfl
  | acEob => cases h; exact .acEob rfl rfl
  | _ => cases h; exact .ac _ rfl rfl rfl

/-- The blocks of a differential DC codeword (42_entropy_dc.md R303). -/
theorem dcWord_context {i : Instr} {w : DcWord} (h : dcWord? i = some w) :
    w.context = .dcLuma ∨ w.context = .dcChroma := by
  cases i <;> cases h <;> simp

/-! ## Codewords that end the frame -/

/-- A codeword that takes its bits first is END_OF_STREAM where they are not there (20_memory.md R111). -/
theorem expecting_take_cut {allowed : List Context} {c : Context} {len : Nat} {k : State → Result} {s : State}
    (h : context s = .ok c) (hc : c ∈ allowed) (hcut : s.streamBits < s.bitPos + len) :
    expecting allowed s (match take len s with
      | none => .next (raiseEndOfStream s)
      | some t => k t) = .next (raiseEndOfStream s) := by
  rw [expecting_eq h hc, take_eq_none.mpr hcut]

/-- Settles O19: whatever the codeword, its bits are taken first. -/
theorem cutCodewordIsEndOfStream : Obligations.CutCodewordIsEndOfStream := by
  intro i code s hi hctx hcut
  have hexec : exec i s = .next (raiseEndOfStream s) := by
    cases codewordShape hi with
    | dcShared d hd hlen =>
      subst hd
      exact expecting_take_cut hctx (by simp [contextOf]) (hlen ▸ hcut)
    | dcDiff w hw hc hlen =>
      rw [exec_dcDiff hw]
      exact expecting_take_cut hctx (by simp [hc]) (hlen ▸ hcut)
    | acEob he hlen =>
      subst he
      exact expecting_take_cut hctx (by simp [contextOf]) (hlen ▸ hcut)
    | ac w hw hc hlen =>
      rw [exec_ac hw]
      exact expecting_take_cut hctx (by simp [hc]) (hlen ▸ hcut)
  exact ⟨_, hexec, raiseEndOfStream_frameFails s⟩

/-- Settles O20: no codeword is fetched, and the error takes no bit. -/
theorem noCodewordEndsTheFrame : Obligations.NoCodewordEndsTheFrame := by
  intro s c body ht _ hc hmain hbody
  rw [step_default ht hc hmain hbody]
  refine ⟨fun hmore => ?_, fun hno => ?_⟩
  · rw [fetchDefault, hmore]
    exact ⟨_, rfl, raiseEndOfStream_frameFails s⟩
  · rw [fetchDefault, hno]
    exact ⟨_, rfl, raiseCorruption_frameFails (unmatchedCause c) _ _ s⟩

/-- Bits that agree with the code of no row begin no codeword (43_entropy_ac.md R351). -/
theorem classifyRows_unmatched {rows : List Row} {w : Bits} (h : ∀ r ∈ rows, agrees r.code w = false) :
    classifyRows rows w = .unmatched := by
  have hno : rows.findSome? (fun r => matchRow r w) = none := by
    refine List.findSome?_eq_none_iff.mpr fun r hr => ?_
    by_contra hne
    obtain ⟨m, hm⟩ := Option.ne_none_iff_exists'.mp hne
    have hdis := h r hr
    rw [agrees_of_matchRow hm] at hdis
    cases hdis
  have hany : ¬ rows.any (fun r => agrees r.code w) = true := by
    simpa using h
  simp only [classifyRows, hno, if_neg hany]

/-- No code of the mainline AC table begins with twelve zeros or is a beginning of them (43_entropy_ac.md R367). -/
theorem acRows_not_agrees_zeros : ∀ r ∈ acRows, agrees r.code (List.replicate 12 false) = false := by
  have h : ∀ c ∈ acRows.map Row.code, agrees c (List.replicate 12 false) = false := by decide
  exact fun r hr => h _ (List.mem_map_of_mem hr)

/-- Settles O21: no code agrees with the twelve zeros, so none with what follows them. -/
theorem twelveZerosAreUnmatched : Obligations.TwelveZerosAreUnmatched := by
  intro s body rest hs ht hbody hpeek
  have hno : decodeCodeword .ac (peek s body window) = .unmatched :=
    classifyRows_unmatched fun r hr => hpeek ▸ agrees_append_eq_false (acRows_not_agrees_zeros r hr) rest
  exact (noCodewordEndsTheFrame s .ac body ht hs.emitted hs.context_eq (by decide) hbody).2 hno

/-! ## What a codeword can do -/

/-- What `context` answers, by the tracker and the header (43_entropy_ac.md R350). -/
theorem context_cases {s : State} {c : Context} (h : context s = .ok c) :
    (s.trk.firstOfBlock = true ∧ s.hdr.dcMode = some .shared ∧ c = .dcShared) ∨
    (s.trk.firstOfBlock = true ∧ s.hdr.dcMode = some .diff ∧ c = if s.trk.role.isLuma then .dcLuma else .dcChroma) ∨
    (s.trk.firstOfBlock = false ∧ s.hdr.acTable = some .main ∧ c = .ac) ∨
    (s.trk.firstOfBlock = false ∧ s.hdr.acTable = some .title ∧ c = .acTitle) := by
  have hr := context_reading h
  cases hfirst : s.trk.firstOfBlock
  · rcases hac : s.hdr.acTable with - | - | - <;>
      simp_all [context, hr.running, hr.emitted, hr.active, hr.format, hr.body]
  · rcases hdc : s.hdr.dcMode with - | - | - <;>
      simp_all [context, hr.running, hr.emitted, hr.active, hr.format, hr.body]

/-- A DC codeword is read at the start of a block (42_entropy_dc.md R300, R303). -/
theorem context_dc {s : State} {c : Context} (h : context s = .ok c) (hc : c = .dcShared ∨ c = .dcLuma ∨ c = .dcChroma) :
    s.trk.firstOfBlock = true ∧ (c ≠ .dcShared → s.hdr.dcMode = some .diff) := by
  rcases context_cases h with ⟨hf, -, rfl⟩ | ⟨hf, hd, -⟩ | ⟨-, -, rfl⟩ | ⟨-, -, rfl⟩
  · exact ⟨hf, fun h => absurd rfl h⟩
  · exact ⟨hf, fun _ => hd⟩
  · simp at hc
  · simp at hc

/-- An AC codeword is read later in a block (43_entropy_ac.md R350). -/
theorem context_ac {s : State} {c : Context} (h : context s = .ok c) (hc : c = .ac ∨ c = .acTitle) :
    s.trk.firstOfBlock = false := by
  rcases context_cases h with ⟨-, -, rfl⟩ | ⟨-, -, rfl⟩ | ⟨hf, -⟩ | ⟨hf, -⟩
  · simp at hc
  · split at hc <;> simp at hc
  · exact hf
  · exact hf

/-- What a codeword of so many bits can do where it is read: it ends the frame with an error of the decoder, after which
only `BITPOS` and `VPOS` have moved, or it emits a code: a first one with the predictors of its scheme, a later one whose
run the run check lets pass, or the end of block. -/
inductive CodewordStep (s : State) (len : Nat) : State → Prop where
  | fails (e : FrameError) (b v : Nat) (hb : b = s.bitPos ∨ s.bitPos ≤ b ∧ b ≤ s.streamBits)
      (hv : v = s.vpos ∨ s.vpos ≤ v ∧ v ≤ 63) (he : e.cause? ≠ some .runOutOfBounds) :
      CodewordStep s len (fail e { s with bitPos := b, vpos := v })
  | dc (c : Code) (p : PrevDc) (hfirst : s.trk.firstOfBlock = true)
      (hp : p = s.prevDc ∨ s.hdr.dcMode = some .diff ∧ ∃ x : Int, -512 ≤ x ∧ x ≤ 511 ∧ p = s.prevDc.set x s.trk.role)
      (hbits : s.bitPos + len ≤ s.streamBits) :
      CodewordStep s len (emit s.bitPos c { s with bitPos := s.bitPos + len, prevDc := p, vpos := 0 })
  | run (c : Code) (hlater : s.trk.firstOfBlock = false) (hpos : s.vpos + c.top6.toNat + 1 ≤ 63)
      (hbits : s.bitPos + len ≤ s.streamBits) :
      CodewordStep s len (emit s.bitPos c
        { s with bitPos := s.bitPos + len, vpos := s.vpos + c.top6.toNat + 1 })
  | eob (hlater : s.trk.firstOfBlock = false) (hbits : s.bitPos + len ≤ s.streamBits) :
      CodewordStep s len (emit s.bitPos eobCode { s with bitPos := s.bitPos + len })

/-- An END_OF_STREAM at the start of a codeword. -/
theorem CodewordStep.endOfStream (s : State) (len : Nat) : CodewordStep s len (raiseEndOfStream s) :=
  .fails (.endOfStream (blockCtx s s.bitPos none)) s.bitPos s.vpos (.inl rfl) (.inl rfl) (by simp [FrameError.cause?])

/-- An error of the decoder from the state with other positions. -/
theorem CodewordStep.corruption {s : State} {len b v : Nat} {cause : Cause} (value : CtxValue) (start : Nat)
    (hb : b = s.bitPos ∨ s.bitPos ≤ b ∧ b ≤ s.streamBits) (hv : v = s.vpos ∨ s.vpos ≤ v ∧ v ≤ 63)
    (he : cause ≠ .runOutOfBounds) :
    CodewordStep s len (raiseCorruption cause value start { s with bitPos := b, vpos := v }) :=
  .fails _ b v hb hv (by simpa [FrameError.cause?] using he)

/-- A codeword that takes its bits first: END_OF_STREAM, or it goes on with the bits taken. -/
theorem CodewordStep.of_take {allowed : List Context} {len : Nat} {k : State → Result} {s t : State}
    (h : expecting allowed s (match take len s with
      | none => .next (raiseEndOfStream s)
      | some u => k u) = .next t)
    (hk : s.bitPos + len ≤ s.streamBits → (∃ c ∈ allowed, context s = .ok c) → k { s with bitPos := s.bitPos + len } = .next t →
      CodewordStep s len t) : CodewordStep s len t := by
  obtain ⟨hctx, h⟩ := expecting_eq_next h
  cases hu : take len s with
  | none =>
    rw [hu] at h
    cases h
    exact .endOfStream s len
  | some u =>
    rw [hu] at h
    obtain ⟨hbits, rfl⟩ := take_eq_some.mp hu
    exact hk hbits hctx h

theorem dcFieldCodeword_step {len : Nat} {d : BitVec 10} {s t : State} (h : dcFieldCodeword len d s = .next t) :
    CodewordStep s len t := by
  refine .of_take h fun hbits ⟨c, hc, hctx⟩ hk => ?_
  obtain ⟨hfirst, -⟩ := context_dc hctx (.inl (List.mem_singleton.mp hc))
  split at hk
  case h_1 => cases hk
  case h_2 q _ =>
    cases hk
    exact .dc ⟨q, d⟩ s.prevDc hfirst (.inl rfl) hbits

theorem dcDiffCodeword_step {allowed : List Context} {len : Nat} {delta : Int} {s t : State}
    (hallowed : ∀ c ∈ allowed, c = .dcLuma ∨ c = .dcChroma) (h : dcDiffCodeword allowed len delta s = .next t) :
    CodewordStep s len t := by
  refine .of_take h fun hbits ⟨c, hc, hctx⟩ hk => ?_
  have hdiff := hallowed c hc
  obtain ⟨hfirst, hmode⟩ := context_dc hctx (.inr hdiff)
  replace hmode := hmode (by rcases hdiff with rfl | rfl <;> decide)
  dsimp only at hk
  split at hk
  case isTrue =>
    cases hk
    exact .corruption _ _ (.inr ⟨by omega, hbits⟩) (.inl rfl) (by decide)
  case isFalse hrange =>
    split at hk
    case h_1 => cases hk
    case h_2 q _ =>
      cases hk
      exact .dc ⟨q, _⟩ _ hfirst (.inr ⟨hmode, _, by omega, by omega, rfl⟩) hbits

theorem eobCodeword_step {s t : State} (h : eobCodeword s = .next t) : CodewordStep s 2 t := by
  refine .of_take h fun hbits ⟨c, hc, hctx⟩ hk => ?_
  cases hk
  exact .eob (context_ac hctx (by simpa using hc)) hbits

/-- The run check: RUN_OVERFLOW, or the codeword goes on with the new position (43_entropy_ac.md R353). -/
theorem CodewordStep.of_runChecked {allowed : List Context} {len : Nat} {run : BitVec 6} {k : State → Result}
    {s t : State} (hallowed : ∀ c ∈ allowed, c = .ac ∨ c = .acTitle) (h : runChecked allowed len run k s = .next t)
    (hk : s.bitPos + len ≤ s.streamBits → s.trk.firstOfBlock = false → s.vpos + run.toNat + 1 ≤ 63 →
      k { s with bitPos := s.bitPos + len, vpos := s.vpos + run.toNat + 1 } = .next t → CodewordStep s len t) :
    CodewordStep s len t := by
  refine .of_take h fun hbits ⟨c, hc, hctx⟩ h => ?_
  dsimp only at h
  split at h
  case isTrue =>
    cases h
    exact .corruption _ _ (.inr ⟨by omega, hbits⟩) (.inl rfl) (by decide)
  case isFalse hpos => exact hk hbits (context_ac hctx (hallowed c hc)) (by omega) h

theorem acCodeword_step {allowed : List Context} {len : Nat} {run : BitVec 6} {level : BitVec 10} {escape : Bool}
    {s t : State} (hallowed : ∀ c ∈ allowed, c = .ac ∨ c = .acTitle)
    (h : acCodeword allowed len run level escape s = .next t) : CodewordStep s len t := by
  refine .of_runChecked hallowed h fun hbits hlater hpos hk => ?_
  split at hk
  case isTrue =>
    cases hk
    exact .corruption _ _ (.inr ⟨by omega, hbits⟩) (.inr ⟨by omega, hpos⟩) (by decide)
  case isFalse =>
    cases hk
    exact .run ⟨run, level⟩ hlater hpos hbits

theorem zeroEscapeCodeword_step {len : Nat} {run : BitVec 6} {s t : State}
    (h : zeroEscapeCodeword len run s = .next t) : CodewordStep s len t := by
  refine .of_runChecked (by simp) h fun hbits hlater hpos hk => ?_
  cases hk
  exact .corruption _ _ (.inr ⟨by omega, hbits⟩) (.inr ⟨by omega, hpos⟩) (by decide)

/-- A codeword instruction that completes did what a codeword can do. -/
theorem exec_codeword_step {i : Instr} {code : Bits} {s t : State} (hi : encode i = .codeword code)
    (h : exec i s = .next t) : CodewordStep s code.length t := by
  cases codewordShape hi with
  | dcShared d hd hlen =>
    subst hd
    rw [hlen]
    exact dcFieldCodeword_step h
  | dcDiff w hw hc hlen =>
    rw [exec_dcDiff hw] at h
    rw [hlen]
    exact dcDiffCodeword_step (by simpa using dcWord_context hw) h
  | acEob he hlen =>
    subst he
    rw [hlen]
    exact eobCodeword_step h
  | ac w hw hc hlen =>
    rw [exec_ac hw] at h
    rw [hlen]
    exact acCodeword_step (by simp) h

/-- A failed frame is what an error leaves. -/
theorem fail_dstate (e : FrameError) (s : State) : (fail e s).dstate = .failed := by
  rw [(fail_frameFails e s).1]

/-- Emitting counts one code more (40_mdec_code.md R213, R214). -/
theorem emit_totalCodes (start : Nat) (c : Code) (s : State) :
    (emit start c s).trk.totalCodes = s.trk.totalCodes + 1 := by
  cases h : isTerminal s.trk.firstOfBlock c with
  | false => rw [emit_code h]
  | true => rw [emit_eob h]; rfl

/-- Settles O60: a codeword that raises no error only emits its code. -/
theorem codewordsLeaveTheConsumerAlone : Obligations.CodewordsLeaveTheConsumerAlone := by
  intro i code s t hi h hok
  cases exec_codeword_step hi h with
  | fails e b v => exact absurd (fail_dstate e _) hok
  | dc c p => exact ⟨rfl, by simp [emit], emit_totalCodes ..⟩
  | run c => exact ⟨rfl, by simp [emit], emit_totalCodes ..⟩
  | eob => exact ⟨rfl, by simp [emit], emit_totalCodes ..⟩

end Sys2Proof.Machine

/-! PROOFS. The filter and the consumers of a code (44_filter.md; 45_reconstruction.md R556 to R562;
47_host_interface.md R653, R654). -/

namespace Sys2Proof.Machine

/-! ## A code on its way to the consumer -/

/-- The code has been taken from where it waited. -/
def State.taken (s : State) : State := { s with emitted := none }

/-- A later code that is not the end of block goes to the consumer (40_mdec_code.md R212). -/
theorem exec_mdecAc_later {e : Emitted} {s : State} {r : BitVec 6} {l : BitVec 10} (he : s.emitted = some e)
    (hlater : e.first = false) (heob : Code.isEob ⟨r, l⟩ = false) : exec (.mdecAc r l) s = consumeCode ⟨r, l⟩ e s :=
  calc exec (.mdecAc r l) s = execMdecAc r l s := rfl
    _ = consumeCode ⟨r, l⟩ e s := by simp [execMdecAc, he, hlater, heob]

/-- A code the filter absorbs leaves the operation to read on (44_filter.md R503). -/
theorem consumeCode_absorbed {c : Code} {e : Emitted} {s t : State} (hrun : s.running ≠ .idle)
    (hf : filterStep e.first c s.taken = (none, t)) : consumeCode c e s = .next t := by
  have hf' : filterStep e.first c { s with emitted := none } = (none, t) := hf
  cases hr : s.running with
  | idle => exact absurd hr hrun
  | readCode | decodeFrame => rw [consumeCode, hf', hr]

/-- In coefficient mode a code the filter passes is returned (47_host_interface.md R653). -/
theorem consumeCode_codes {c : Code} {e : Emitted} {s t : State} {p : Passed} (hrun : s.running = .readCode)
    (hf : filterStep e.first c s.taken = (some p, t)) : consumeCode c e s = deliver (isTerminal e.first c) p t := by
  have hf' : filterStep e.first c { s with emitted := none } = (some p, t) := hf
  rw [consumeCode, hf', hrun]

/-- In pixel mode a code the filter passes is reconstructed (47_host_interface.md R654). -/
theorem consumeCode_pixels {c : Code} {e : Emitted} {s t : State} {p : Passed} (hrun : s.running = .decodeFrame)
    (hf : filterStep e.first c s.taken = (some p, t)) :
    consumeCode c e s = reconstruct e (isTerminal e.first c) p t := by
  have hf' : filterStep e.first c { s with emitted := none } = (some p, t) := hf
  rw [consumeCode, hf', hrun]

/-- What is returned of a code whose run is one (47_host_interface.md R653). -/
theorem deliver_eq {terminal : Bool} {p : Passed} {s : State} (h : p.top6 ≤ 63) :
    deliver terminal p s = .next (finish (.code (packWord (BitVec.ofNat 6 p.top6) p.bottom10) terminal)
      (if s.dstate = .done then endFrame s else s)) := if_pos h

/-- What is returned of a code of an ACTIVE frame (47_host_interface.md R653). -/
theorem deliver_of_active {terminal : Bool} {p : Passed} {s : State} (h : p.top6 ≤ 63) (hactive : s.dstate = .active) :
    deliver terminal p s = .next (finish (.code (packWord (BitVec.ofNat 6 p.top6) p.bottom10) terminal) s) := by
  rw [deliver_eq h, if_neg (by simp [hactive])]

/-- A code passed as it is has a run. -/
theorem Code.passed_le (c : Code) : c.passed.top6 ≤ 63 := Nat.le_of_lt_succ c.top6.isLt

/-- The word of a code passed as it is. -/
theorem Code.packWord_passed (c : Code) :
    packWord (BitVec.ofNat 6 c.passed.top6) c.passed.bottom10 = c.top6 ++ c.bottom10 := by
  simp [packWord, Code.passed]

/-- In coefficient mode a code at a boundary of its block is returned as it is (44_filter.md R503). -/
theorem consumeCode_codes_boundary {c : Code} {e : Emitted} {s : State} (hrun : s.running = .readCode)
    (hb : (e.first || c.isEob) = true) :
    consumeCode c e s = .next (finish (.code (c.top6 ++ c.bottom10) (isTerminal e.first c))
      (if s.dstate = .done then endFrame s.passBoundary else s.passBoundary)) := by
  rw [consumeCode_codes hrun (filterStep_boundary hb), deliver_eq c.passed_le, c.packWord_passed]
  rfl

/-- Settles O22: both codes pass the filter at a boundary of their block; the frame is published when it is DONE. -/
theorem firstAndLastCodesAreReturned : Obligations.FirstAndLastCodesAreReturned := by
  refine ⟨fun q d e s hrun he hfirst hactive => ?_, fun e s hrun he hlater => ?_⟩
  · have hb : (e.first || Code.isEob ⟨q, d⟩) = true := by rw [hfirst, Bool.true_or]
    rw [exec_mdecDc_first he hfirst, consumeCode_codes_boundary hrun hb, hfirst, isTerminal_first,
      if_neg (by simp [hactive])]
    rfl
  · have hb : (e.first || eobCode.isEob) = true := by rw [hlater]; rfl
    rw [exec_mdecEob_later he hlater, consumeCode_codes_boundary hrun hb, hlater, endFrame_eq]
    by_cases hdone : s.dstate = .done
    · rw [if_pos hdone, if_pos hdone]
      rfl
    · rw [if_neg hdone, if_neg hdone]
      rfl

/-- A later code is not the end of block (40_mdec_code.md R203). -/
theorem isEob_eq_false_of_ne {r : BitVec 6} {l : BitVec 10} (h : ¬ (r = 63#6 ∧ l = -512#10)) :
    Code.isEob ⟨r, l⟩ = false := by
  rw [← Bool.not_eq_true, Code.isEob_iff_eq_eobCode]
  intro heq
  cases heq
  exact h ⟨rfl, by decide⟩

/-- Settles O23: the code is not degenerate, so the filter passes it with the run it holds back. -/
theorem laterCodeIsReturned : Obligations.LaterCodeIsReturned := by
  intro r l e s hrun he hlater hactive hl hne
  have heob := isEob_eq_false_of_ne hne
  have hfilter := filterStep_later (s := s.taken) heob hl
  rw [exec_mdecAc_later he hlater heob]
  refine ⟨fun hnone => ?_, fun p hmerge hp hfit => ?_⟩
  · have hpass : filterStep e.first ⟨r, l⟩ s.taken = (some (Code.passed ⟨r, l⟩), s.taken) := by
      rw [hlater, hfilter]
      cases hm : s.cfg.filterMerge with
      | false => exact if_neg (by simp [State.taken, hm])
      | true =>
        have hp : s.pendRun = none := hnone.resolve_left (by simp [hm])
        simp [State.taken, hm, hp, Code.passed]
    rw [consumeCode_codes hrun hpass, deliver_of_active (Code.passed_le _) (by exact hactive), Code.packWord_passed, hlater,
      isTerminal_later, heob]
    rfl
  · have hpass : filterStep e.first ⟨r, l⟩ s.taken = (some ⟨p + r.toNat, l⟩, s.passBoundary) := by
      rw [hlater, hfilter]
      simp [State.taken, State.passBoundary, hmerge, hp]
    rw [consumeCode_codes hrun hpass, deliver_of_active hfit (by exact hactive), hlater, isTerminal_later, heob]
    rfl

/-! ## Pixel mode -/

/-- A later code whose position stays within the block is stored (45_reconstruction.md R558). -/
theorem reconstruct_later {e : Emitted} {p : Passed} {s : State} (hlater : e.first = false)
    (hpos : s.rpos + p.top6 + 1 ≤ 63) :
    reconstruct e false p s = .next (continueDecode (reconStore p (reconAdvance p s))) := by
  have hle : ¬ (reconAdvance p s).rpos > 63 := Nat.not_lt.mpr hpos
  simp only [reconstruct, hlater, Bool.false_eq_true, if_false, if_neg hle]

/-- A later code whose position leaves the block is RUN_OUT_OF_BOUNDS (45_reconstruction.md R559). -/
theorem reconstruct_outOfBounds {e : Emitted} {p : Passed} {s : State} (hlater : e.first = false)
    (hpos : 63 < s.rpos + p.top6 + 1) :
    reconstruct e false p s = .next (fail (.readCorruption .runOutOfBounds (outOfBoundsCtx e (reconAdvance p s)))
      (reconAdvance p s)) := by
  have hgt : (reconAdvance p s).rpos > 63 := hpos
  simp only [reconstruct, hlater, Bool.false_eq_true, if_false, if_pos hgt]

/-- While the frame is ACTIVE the operation reads on (47_host_interface.md R654). -/
theorem continueDecode_of_active {s : State} (h : s.dstate = .active) : continueDecode s = s := if_pos h

/-- A zero level stores nothing (45_reconstruction.md R558). -/
theorem reconStore_zero {p : Passed} (h : p.bottom10 = 0#10) (s : State) : reconStore p s = s :=
  if_neg (not_not_intro h)

/-- The store of a level at its position, through the zig-zag (45_reconstruction.md R558, R560, R561). -/
theorem reconStore_level {p : Passed} (h : p.bottom10 ≠ 0#10) {s : State} {pos : Fin 64} (hpos : pos.val = s.rpos) :
    reconStore p s = { s with
      blk := s.blk.set (s.params.zigzag[pos])
        (dequantAc s.cfg.variant p.bottom10.toInt s.qtActive[pos] s.blkQscale.toNat)
      nzCount := s.nzCount + 1
      lastNz := some (s.params.zigzag[pos]) } := by
  have hfin : Fin.ofNat 64 s.rpos = pos := Fin.ext (by simp [← hpos])
  simp only [reconStore, if_pos h, hfin]

/-- Settles O24: a degenerate code is absorbed with merging on, else it passes unchanged, and a zero level stores nothing. -/
theorem degenerateCodeIsCounted : Obligations.DegenerateCodeIsCounted := by
  intro r e s hrun he hlater hactive
  have heob : Code.isEob ⟨r, 0#10⟩ = false := isEob_eq_false_of_ne (fun h => absurd h.2 (by decide))
  have hfilter := filterStep_degenerate (s := s.taken) heob rfl
  have hpass (hmerge : s.cfg.filterMerge = false) :
      filterStep e.first ⟨r, 0#10⟩ s.taken = (some (Code.passed ⟨r, 0#10⟩), countDegenerate s.taken) := by
    rw [hlater, hfilter]
    exact if_neg (by simp [State.taken, hmerge])
  rw [exec_mdecAc_later he hlater heob]
  refine ⟨fun hmerge => ?_, fun hmerge hcodes => ?_, fun hmerge hpixels hpos => ?_⟩
  · have habsorb : filterStep e.first ⟨r, 0#10⟩ s.taken =
        (none, { countDegenerate s.taken with pendRun := some (pendAfter s.pendRun r.toNat) }) := by
      rw [hlater, hfilter]
      exact if_pos hmerge
    rw [consumeCode_absorbed hrun habsorb]
    cases s.pendRun <;> rfl
  · rw [consumeCode_codes hcodes (hpass hmerge), deliver_of_active (Code.passed_le _) (by exact hactive), Code.packWord_passed,
      hlater, isTerminal_later, heob]
    rfl
  · rw [consumeCode_pixels hpixels (hpass hmerge), hlater, isTerminal_later, heob, reconstruct_later hlater hpos,
      reconStore_zero rfl, continueDecode_of_active (by exact hactive)]
    rfl

/-- Settles O26: the filter passes the code with the run it holds back; within the block its level is stored, beyond it
is the error of the engine. -/
theorem laterCodeIsStored : Obligations.LaterCodeIsStored := by
  intro r l e run s hrun he hlater hactive hl hne hsum
  have heob := isEob_eq_false_of_ne hne
  have hpass : filterStep e.first ⟨r, l⟩ s.taken =
      (some ⟨run, l⟩, { s with emitted := none, pendRun := if s.cfg.filterMerge then none else s.pendRun }) := by
    rw [hlater, filterStep_later (s := s.taken) heob hl, hsum]
    cases hm : s.cfg.filterMerge <;> simp [State.taken, hm, Code.passed]
  rw [exec_mdecAc_later he hlater heob, consumeCode_pixels hrun hpass, hlater, isTerminal_later, heob]
  refine ⟨fun pos hpos => ?_, fun hover => ?_⟩
  · have hwithin : s.rpos + run + 1 ≤ 63 := by have := pos.isLt; omega
    rw [reconstruct_later hlater hwithin, reconStore_level hl hpos, continueDecode_of_active (by exact hactive)]
    simp only [dequantAc]
    rfl
  · rw [reconstruct_outOfBounds hlater hover]
    refine ⟨_, rfl, ?_⟩
    rw [(fail_frameFails _ _).1]
    exact ⟨rfl, rfl, rfl, rfl⟩

/-! ## The blocks of a plane -/

/-- A role is told by its index. -/
theorem Role.index_inj {r r' : Role} (h : r.index = r'.index) : r = r' := by
  cases r <;> cases r' <;> first | rfl | cases h

/-- A block that holds a sample has the sample's number (45_reconstruction.md R569). -/
theorem blockNumber_of_mem {c : Cfg} {i x y : Nat} {r : Role} (hx : (blockOrigin c i r).1 ≤ x)
    (hx' : x < (blockOrigin c i r).1 + 8) (hy : (blockOrigin c i r).2 ≤ y) (hy' : y < (blockOrigin c i r).2 + 8) :
    blockNumber c r.plane x y = 6 * i + r.index := by
  have h := blockNumber_block (c := c) (i := i) r (x := x - (blockOrigin c i r).1) (y := y - (blockOrigin c i r).2)
    (by omega) (by omega)
  rwa [Nat.add_sub_of_le hx, Nat.add_sub_of_le hy] at h

theorem Role.index_lt (r : Role) : r.index < 6 := by
  cases r <;> decide

/-- A number of a block tells the block. -/
theorem blockNumber_inj {i i' : Nat} {r r' : Role} (h : 6 * i + r.index = 6 * i' + r'.index) : i = i' ∧ r = r' := by
  have hr := r.index_lt
  have hr' := r'.index_lt
  exact ⟨by omega, Role.index_inj (by omega)⟩

/-- The number of a macroblock by its column and its row, as it is counted down the columns (40_mdec_code.md R206). -/
theorem Cfg.mbNumber {c : Cfg} {a b : Nat} (ha : a < c.mbW) (hb : b < c.mbH) :
    a * c.mbH + b < c.mbCount ∧ (a * c.mbH + b) / c.mbH = a ∧ (a * c.mbH + b) % c.mbH = b := by
  refine ⟨?_, by rw [Nat.mul_comm, Nat.mul_add_div (Nat.zero_lt_of_lt hb), Nat.div_eq_of_lt hb, Nat.add_zero],
    Nat.mul_add_mod_of_lt hb⟩
  calc a * c.mbH + b < a * c.mbH + c.mbH := Nat.add_lt_add_left hb _
    _ = (a + 1) * c.mbH := (Nat.succ_mul a c.mbH).symm
    _ ≤ c.mbW * c.mbH := Nat.mul_le_mul_right _ ha

/-- The sample is one of the 64 of the block of a macroblock and a role (45_reconstruction.md R569). -/
def InBlock (c : Cfg) (p : PlaneId) (x y i : Nat) (r : Role) : Prop :=
  p = r.plane ∧ (blockOrigin c i r).1 ≤ x ∧ x < (blockOrigin c i r).1 + 8 ∧ (blockOrigin c i r).2 ≤ y ∧
    y < (blockOrigin c i r).2 + 8

/-- Every sample inside its plane is in a block of the frame (45_reconstruction.md R570). -/
theorem exists_inBlock {c : Cfg} {p : PlaneId} {x y : Nat} (h : p.Inside c x y) :
    ∃ i r, i < c.mbCount ∧ InBlock c p x y i r := by
  obtain ⟨hx, hy⟩ := h
  have hchroma (hp : p = .cb ∨ p = .cr) : x / 8 < c.mbW ∧ y / 8 < c.mbH := by
    rcases hp with rfl | rfl <;>
      · simp only [PlaneId.stride, PlaneId.rows, Cfg.w16, Cfg.h16] at hx hy
        omega
  cases p with
  | cr =>
    obtain ⟨ha, hb⟩ := hchroma (.inr rfl)
    obtain ⟨hi, hcol, hrow⟩ := Cfg.mbNumber ha hb
    refine ⟨_, .cr, hi, rfl, ?_⟩
    simp only [blockOrigin, Cfg.mbPixel, hcol, hrow]
    omega
  | cb =>
    obtain ⟨ha, hb⟩ := hchroma (.inl rfl)
    obtain ⟨hi, hcol, hrow⟩ := Cfg.mbNumber ha hb
    refine ⟨_, .cb, hi, rfl, ?_⟩
    simp only [blockOrigin, Cfg.mbPixel, hcol, hrow]
    omega
  | y =>
    simp only [PlaneId.stride, PlaneId.rows, Cfg.w16, Cfg.h16] at hx hy
    obtain ⟨hi, hcol, hrow⟩ := Cfg.mbNumber (by omega : x / 16 < c.mbW) (by omega : y / 16 < c.mbH)
    have hquarter : (x / 8 % 2 = 0 ∨ x / 8 % 2 = 1) ∧ (y / 8 % 2 = 0 ∨ y / 8 % 2 = 1) := by omega
    rcases hquarter with ⟨hl | hr, ht | hb⟩
    · refine ⟨_, .y1, hi, rfl, ?_⟩
      simp only [blockOrigin, Cfg.mbPixel, hcol, hrow]
      omega
    · refine ⟨_, .y3, hi, rfl, ?_⟩
      simp only [blockOrigin, Cfg.mbPixel, hcol, hrow]
      omega
    · refine ⟨_, .y2, hi, rfl, ?_⟩
      simp only [blockOrigin, Cfg.mbPixel, hcol, hrow]
      omega
    · refine ⟨_, .y4, hi, rfl, ?_⟩
      simp only [blockOrigin, Cfg.mbPixel, hcol, hrow]
      omega

/-- The block of a sample is the one with its number (45_reconstruction.md R569, R570). -/
theorem inBlock_iff {c : Cfg} {p : PlaneId} {x y : Nat} (h : p.Inside c x y) (i : Nat) (r : Role) :
    InBlock c p x y i r ↔ blockNumber c p x y = 6 * i + r.index := by
  have hnumber {i r} (hb : InBlock c p x y i r) : blockNumber c p x y = 6 * i + r.index := by
    obtain ⟨rfl, hx, hx', hy, hy'⟩ := hb
    exact blockNumber_of_mem hx hx' hy hy'
  refine ⟨hnumber, fun hn => ?_⟩
  obtain ⟨i', r', -, hb⟩ := exists_inBlock h
  obtain ⟨rfl, rfl⟩ := blockNumber_inj ((hnumber hb).symm.trans hn)
  exact hb

/-- The number of a sample's block is one of the frame's (45_reconstruction.md R570). -/
theorem blockNumber_lt {c : Cfg} {p : PlaneId} {x y : Nat} (h : p.Inside c x y) :
    blockNumber c p x y < 6 * c.mbCount := by
  obtain ⟨i, r, hi, hb⟩ := exists_inBlock h
  have := r.index_lt
  rw [(inBlock_iff h i r).mp hb]
  omega

/-- Settles O29: the sample's block is the one with its number, and a number tells its block. -/
theorem everySampleIsInOneBlock : Obligations.EverySampleIsInOneBlock := by
  intro c p x y h
  obtain ⟨i, r, hi, hb⟩ := exists_inBlock h
  refine ⟨i, r, ⟨hi, hb.1.symm, hb.2⟩, fun i' r' _ hp hx hx' hy hy' => ?_⟩
  have hb' : InBlock c p x y i' r' := ⟨hp.symm, hx, hx', hy, hy'⟩
  exact blockNumber_inj (((inBlock_iff h i' r').mp hb').symm.trans ((inBlock_iff h i r).mp hb))

end Sys2Proof.Machine

/-! PROOFS. The two outputs (46_color.md R600, R612, R615, R616; 47_host_interface.md R655, R656). -/

namespace Sys2Proof.Machine

/-! ## READ_RGB -/

/-- The positions of a frame's pixels, row by row, the row first. -/
def pixelPositions (width height : Nat) : List (Nat × Nat) := List.range height ×ˢ List.range width

theorem mem_pixelPositions {width height y x : Nat} :
    (y, x) ∈ pixelPositions width height ↔ y < height ∧ x < width := by
  simp [pixelPositions]

/-- READ_RGB writes one element for each pixel of the frame (47_host_interface.md R655). -/
theorem rgbWrites_eq (s : State) (offset stride : Nat) (m : Memory (Option Pixel)) :
    rgbWrites s offset stride m =
      (pixelPositions s.cfg.width.toNat s.cfg.height.toNat).foldl (fun m q =>
        Memory.write none m (offset + q.1 * stride + q.2) (some (pixelAt s q.2 q.1))) m := by
  simp only [rgbWrites, pixelPositions, SProd.sprod, List.product, List.foldl_flatMap, List.foldl_map]

/-- The elements of the pixels of a frame, none wider than the stride, are all different (20_memory.md R121). -/
theorem pixelPositions_pairwise {width height stride : Nat} (offset : Nat) (h : width ≤ stride) :
    (pixelPositions width height).Pairwise (fun q q' => offset + q.1 * stride + q.2 ≠ offset + q'.1 * stride + q'.2) := by
  have hnodup : (pixelPositions width height).Nodup := List.nodup_range.product List.nodup_range
  refine hnodup.imp_of_mem fun {q q'} hq hq' hne heq => hne ?_
  obtain ⟨-, hx⟩ := mem_pixelPositions.mp hq
  obtain ⟨-, hx'⟩ := mem_pixelPositions.mp hq'
  obtain ⟨hcol, hrow⟩ := planeAddress_inj (Nat.lt_of_lt_of_le hx h) (Nat.lt_of_lt_of_le hx' h)
    (Nat.add_left_cancel (by simpa only [Nat.add_assoc] using heq))
  exact Prod.ext hrow hcol

/-- What READ_RGB leaves: the pixels in their elements, and what was there elsewhere (47_host_interface.md R655). -/
theorem read_rgbWrites {s : State} {offset stride : Nat} {m : Memory (Option Pixel)} (hwf : Memory.wf none m = true)
    (hstride : s.cfg.width.toNat ≤ stride) :
    (∀ x y, x < s.cfg.width.toNat → y < s.cfg.height.toNat →
      Memory.read none (rgbWrites s offset stride m) (offset + y * stride + x) = some (pixelAt s x y)) ∧
    (∀ a, (∀ x y, x < s.cfg.width.toNat → y < s.cfg.height.toNat → a ≠ offset + y * stride + x) →
      Memory.read none (rgbWrites s offset stride m) a = Memory.read none m a) := by
  have hread := fun a => Memory.read_foldl_write (fun q : Nat × Nat => offset + q.1 * stride + q.2)
    (fun q => some (pixelAt s q.2 q.1)) _ m a hwf (pixelPositions_pairwise (height := s.cfg.height.toNat) offset hstride)
  rw [rgbWrites_eq]
  refine ⟨fun x y hx hy => ?_, fun a ha => ?_⟩
  · exact (hread _).1 (y, x) (mem_pixelPositions.mpr ⟨hy, hx⟩) rfl
  · refine (hread a).2 fun q hq => ?_
    obtain ⟨hy, hx⟩ := mem_pixelPositions.mp hq
    exact (ha q.2 q.1 hx hy).symm

/-- READ_RGB of a configured core into an array that is wide and long enough (47_host_interface.md R655). -/
theorem exec_readRgb_legal {s : State} {len offset stride : Nat} (hidle : s.running = .idle)
    (hconf : s.configured = true) (hstride : s.cfg.width.toNat ≤ stride)
    (hlen : offset + (s.cfg.height.toNat - 1) * stride + s.cfg.width.toNat ≤ len) :
    exec (.readRgb len offset stride) s =
      .next { s with outRgb := rgbWrites s offset stride s.outRgb, reply := some .ok } := by
  rw [exec_readRgb_of_idle hidle, if_neg (by simp [hconf]), if_neg (by omega)]

/-- Settles O44: the pixels have elements of their own, so each is read back. -/
theorem readRgbWritesThePixels : Obligations.ReadRgbWritesThePixels := by
  intro len offset stride s hidle hconf hwf hstride hlen
  obtain ⟨hin, hout⟩ := read_rgbWrites hwf hstride
  exact ⟨_, exec_readRgb_legal hidle hconf hstride hlen, rfl, rgbWrites_wf s offset stride _ hwf, hin, hout⟩

/-! ## READ_YCBCR420 -/

@[simp] theorem length_planeSamples (s : State) (p : PlaneId) (columns rows : Nat) :
    (planeSamples s p columns rows).length = rows * columns := by
  simp [planeSamples, List.length_flatMap]

/-- The samples of a plane stand row by row (20_memory.md R120). -/
theorem getElem?_planeSamples {s : State} {p : PlaneId} {columns rows x y : Nat} (hx : x < columns) (hy : y < rows) :
    (planeSamples s p columns rows)[y * columns + x]? = some (planeRead s p x y) := by
  induction rows with
  | zero => omega
  | succ rows ih =>
    have hsplit : planeSamples s p columns (rows + 1) =
        planeSamples s p columns rows ++ (List.range columns).map (fun x => planeRead s p x rows) := by
      simp [planeSamples, List.range_succ, List.flatMap_append]
    rw [hsplit]
    by_cases hlast : y = rows
    · subst hlast
      rw [List.getElem?_append_right (by simp), length_planeSamples, Nat.add_sub_cancel_left, List.getElem?_map,
        List.getElem?_range hx]
      rfl
    · have hbefore : y * columns + x < (planeSamples s p columns rows).length := by
        rw [length_planeSamples]
        calc y * columns + x < y * columns + columns := Nat.add_lt_add_left hx _
          _ = (y + 1) * columns := (Nat.succ_mul y columns).symm
          _ ≤ rows * columns := Nat.mul_le_mul_right _ (by omega)
      rw [List.getElem?_append_left hbefore]
      exact ih (by omega)

/-- The three planes fill the output (47_host_interface.md R656). -/
theorem length_croppedPlanes (s : State) : (croppedPlanes s).length = yuvLength s.cfg := by
  simp only [croppedPlanes, List.length_append, length_planeSamples, yuvLength]
  ring

/-- READ_YCBCR420 of a configured core of an even size into an array that is long enough (47_host_interface.md R656). -/
theorem exec_readYcbcr420_legal {s : State} {len : Nat} (hidle : s.running = .idle) (hconf : s.configured = true)
    (hwidth : s.cfg.width.toNat % 2 = 0) (hheight : s.cfg.height.toNat % 2 = 0) (hlen : yuvLength s.cfg ≤ len)
    (space : Colorspace) :
    exec (.readYcbcr420 len space) s =
      .next { s with outYuv := writeFrom (yuvOutput s space) 0 s.outYuv, reply := some .ok } := by
  rw [exec_readYcbcr420_of_idle hidle, if_neg (by simp [hconf]), if_neg (by omega), if_neg (Nat.not_lt.mpr hlen)]

/-- What the writes from element 0 leave (47_host_interface.md R656). -/
theorem read_writeFrom_zero {l : List Sample} {m : Memory (Option Sample)} (hwf : Memory.wf none m = true) (a : Nat) :
    Memory.read none (writeFrom l 0 m) a = if a < l.length then l[a]? else Memory.read none m a := by
  simpa using read_writeFrom l 0 m a hwf

/-- What the first list holds stands there in the two joined. -/
theorem getElem?_append_some {α : Type} {l l' : List α} {k : Nat} {v : α} (h : l[k]? = some v) :
    (l ++ l')[k]? = some v := by
  rw [List.getElem?_append_left (List.getElem?_eq_some_iff.mp h).1, h]

/-- Settles O46: the output is the three cropped planes one after another, from element 0 on. -/
theorem readYcbcr420WritesThePlanes : Obligations.ReadYcbcr420WritesThePlanes := by
  intro len s hidle hconf hwf hwidth hheight hlen
  have hread := read_writeFrom_zero (l := croppedPlanes s) hwf
  have hplane {a : Nat} {v : Sample} (h : (croppedPlanes s)[a]? = some v) :
      Memory.read none (writeFrom (croppedPlanes s) 0 s.outYuv) a = some v := by
    rw [hread, if_pos (List.getElem?_eq_some_iff.mp h).1, h]
  refine ⟨_, exec_readYcbcr420_legal hidle hconf hwidth hheight hlen .console, rfl, writeFrom_wf _ _ _ hwf,
    fun x y hx hy => hplane ?_, fun x y hx hy => ⟨hplane ?_, hplane ?_⟩, fun a ha => ?_⟩
  · have hy' := getElem?_planeSamples (s := s) (p := .y) hx hy
    exact getElem?_append_some (getElem?_append_some hy')
  · have hcb := getElem?_planeSamples (s := s) (p := .cb) hx hy
    refine getElem?_append_some ?_
    rw [Nat.add_assoc, Nat.mul_comm, ← length_planeSamples s .y, List.getElem?_append_right (Nat.le_add_right ..),
      Nat.add_sub_cancel_left, hcb]
  · have hcr := getElem?_planeSamples (s := s) (p := .cr) hx hy
    have hstart : s.cfg.width.toNat * s.cfg.height.toNat + (s.cfg.width.toNat / 2) * (s.cfg.height.toNat / 2) =
        (planeSamples s .y s.cfg.width.toNat s.cfg.height.toNat ++
          planeSamples s .cb (s.cfg.width.toNat / 2) (s.cfg.height.toNat / 2)).length := by
      simp only [List.length_append, length_planeSamples]
      ring
    rw [Nat.add_assoc, hstart]
    simp only [croppedPlanes]
    rw [List.getElem?_append_right (Nat.le_add_right ..), Nat.add_sub_cancel_left, hcr]
  · have hend : ¬ a < (croppedPlanes s).length := by
      rw [length_croppedPlanes]
      exact Nat.not_lt.mpr ha
    exact (hread a).trans (if_neg hend)

/-- Settles O47: the output has an element for each of the cropped planes' samples. -/
theorem readRec601WritesTheConversion : Obligations.ReadRec601WritesTheConversion := by
  intro len s hidle hconf hwf hwidth hheight hlen
  have hlength : (yuvOutput s .rec601).length = yuvLength s.cfg := by
    simp [yuvOutput, length_croppedPlanes]
  have hread := read_writeFrom_zero (l := yuvOutput s .rec601) hwf
  refine ⟨_, exec_readYcbcr420_legal hidle hconf hwidth hheight hlen .rec601, rfl, fun a ha => ?_, fun a ha => ?_⟩
  · have hin : a < yuvLength s.cfg := ha
    refine (hread a).trans ?_
    rw [if_pos (hlength.symm ▸ hin)]
    simp [yuvOutput, length_croppedPlanes, hin]
  · exact (hread a).trans (if_neg (hlength.symm ▸ Nat.not_lt.mpr ha))

end Sys2Proof.Machine

/-! PROOFS. What the instructions leave unchanged (10_state.md R53 to R60, R69; 20_memory.md R100, R111). -/

namespace Sys2Proof.Machine

/-- The filter writes its own registers and its count, and nothing else (44_filter.md R502, R503). -/
theorem filterStep_state (first : Bool) (c : Code) (s : State) : ∃ n m p, (filterStep first c s).2 =
    { s with degenCount := n, status := { s.status with degenCount := m }, pendRun := p } := by
  by_cases hb : (first || c.isEob) = true
  · rw [filterStep_boundary hb]
    exact ⟨_, _, _, rfl⟩
  obtain ⟨rfl, heob⟩ : first = false ∧ c.isEob = false := by simpa using hb
  by_cases hz : c.bottom10 = 0#10
  · rw [filterStep_degenerate heob hz]
    split <;> exact ⟨_, _, _, rfl⟩
  · rw [filterStep_later heob hz]
    split <;> exact ⟨_, _, _, rfl⟩

/-! ## The frame of an operation's micro-steps -/

/-- What the codewords, the packed codes and the loop over them leave unchanged: the configuration, the tables, the frame,
the host's requests and arrays, and outside DECODE_FRAME the planes; and what only grows: `BITPOS`, within the stream, and
the tracker's counters. -/
structure StreamFrame (s t : State) : Prop where
  params : t.params = s.params
  hostIn : t.hostIn = s.hostIn
  configured : t.configured = s.configured
  cfg : t.cfg = s.cfg
  qt : t.qt = s.qt
  qtActive : t.qtActive = s.qtActive
  inBuf : t.inBuf = s.inBuf
  fmt : t.fmt = s.fmt
  hdr : t.hdr = s.hdr
  streamBits : t.streamBits = s.streamBits
  outRgb : t.outRgb = s.outRgb
  outYuv : t.outYuv = s.outYuv
  planes : s.running ≠ .decodeFrame →
    t.running ≠ .decodeFrame ∧ t.planeY = s.planeY ∧ t.planeCb = s.planeCb ∧ t.planeCr = s.planeCr
  bitPos : s.bitPos ≤ s.streamBits → s.bitPos ≤ t.bitPos ∧ t.bitPos ≤ s.streamBits
  totalCodes : s.trk.totalCodes ≤ t.trk.totalCodes
  totalBlocks : s.trk.totalBlocks ≤ t.trk.totalBlocks
  totalMbs : s.trk.totalMbs ≤ t.trk.totalMbs

namespace StreamFrame

/-- An update of what the consumer and the outcome own, and of `DSTATE` and the mode, is within the frame. -/
theorem of_consumer {s t : State} (h : t = { s with
    reply := t.reply, running := t.running, emitted := t.emitted, dstate := t.dstate, vpos := t.vpos, prevDc := t.prevDc
    degenCount := t.degenCount, pendRun := t.pendRun, blk := t.blk, nzCount := t.nzCount, lastNz := t.lastNz
    blkQscale := t.blkQscale, rpos := t.rpos, status := t.status, frameMode := t.frameMode })
    (hrun : s.running ≠ .decodeFrame → t.running ≠ .decodeFrame) : StreamFrame s t := by
  rw [h] at hrun ⊢
  exact ⟨rfl, rfl, rfl, rfl, rfl, rfl, rfl, rfl, rfl, rfl, rfl, rfl, fun h => ⟨hrun h, rfl, rfl, rfl⟩,
    fun h => ⟨Nat.le_refl _, h⟩, Nat.le_refl _, Nat.le_refl _, Nat.le_refl _⟩

theorem refl (s : State) : StreamFrame s s := of_consumer rfl id

theorem trans {s t u : State} (h : StreamFrame s t) (g : StreamFrame t u) : StreamFrame s u where
  params := g.params.trans h.params
  hostIn := g.hostIn.trans h.hostIn
  configured := g.configured.trans h.configured
  cfg := g.cfg.trans h.cfg
  qt := g.qt.trans h.qt
  qtActive := g.qtActive.trans h.qtActive
  inBuf := g.inBuf.trans h.inBuf
  fmt := g.fmt.trans h.fmt
  hdr := g.hdr.trans h.hdr
  streamBits := g.streamBits.trans h.streamBits
  outRgb := g.outRgb.trans h.outRgb
  outYuv := g.outYuv.trans h.outYuv
  planes hs := by
    obtain ⟨ht, hy, hcb, hcr⟩ := h.planes hs
    obtain ⟨hu, gy, gcb, gcr⟩ := g.planes ht
    exact ⟨hu, gy.trans hy, gcb.trans hcb, gcr.trans hcr⟩
  bitPos hs := by
    obtain ⟨hle, hend⟩ := h.bitPos hs
    obtain ⟨gle, gend⟩ := g.bitPos (h.streamBits ▸ hend)
    exact ⟨hle.trans gle, h.streamBits ▸ gend⟩
  totalCodes := h.totalCodes.trans g.totalCodes
  totalBlocks := h.totalBlocks.trans g.totalBlocks
  totalMbs := h.totalMbs.trans g.totalMbs

/-- Inside DECODE_FRAME the planes may change. -/
theorem of_withPlanes {s : State} (hrun : s.running = .decodeFrame) (y cb cr : Memory Sample) :
    StreamFrame s (s.withPlanes y cb cr) :=
  ⟨rfl, rfl, rfl, rfl, rfl, rfl, rfl, rfl, rfl, rfl, rfl, rfl, fun h => absurd hrun h,
    fun h => ⟨Nat.le_refl _, h⟩, Nat.le_refl _, Nat.le_refl _, Nat.le_refl _⟩

theorem of_endFrame (s : State) : StreamFrame s (endFrame s) := by
  rw [endFrame_eq]
  exact of_consumer rfl id

theorem of_finish (r : Reply) (s : State) : StreamFrame s (finish r s) :=
  of_consumer rfl fun _ h => nomatch h

theorem of_recordError (e : FrameError) (s : State) : StreamFrame s (recordError e s) := by
  cases e <;> exact of_consumer rfl id

theorem of_zeroFillFrom {s : State} (hrun : s.running = .decodeFrame) (i : Nat) (r : Role) :
    StreamFrame s (zeroFillFrom i r s) := by
  obtain ⟨y, cb, cr, h⟩ := zeroFillFrom_withPlanes i r s
  rw [h]
  exact of_withPlanes hrun y cb cr

theorem of_fail (e : FrameError) (s : State) : StreamFrame s (fail e s) := by
  have hend (u : State) : StreamFrame u (finish e.reply (endFrame (recordError e u))) :=
    (of_recordError e u).trans ((of_endFrame _).trans (of_finish _ _))
  cases hrun : s.running with
  | decodeFrame =>
    simp only [fail, hrun]
    exact (of_zeroFillFrom hrun _ _).trans (hend _)
  | readCode | idle =>
    simp only [fail, hrun]
    exact hend s

/-- A codeword that takes bits of the stream and moves the decoder's own registers. -/
theorem of_taken {s : State} {b v : Nat} {p : PrevDc} (hb : b = s.bitPos ∨ s.bitPos ≤ b ∧ b ≤ s.streamBits) :
    StreamFrame s { s with bitPos := b, prevDc := p, vpos := v } :=
  ⟨rfl, rfl, rfl, rfl, rfl, rfl, rfl, rfl, rfl, rfl, rfl, rfl, fun h => ⟨h, rfl, rfl, rfl⟩,
    fun h => by
      show s.bitPos ≤ b ∧ b ≤ s.streamBits
      omega,
    Nat.le_refl _, Nat.le_refl _, Nat.le_refl _⟩

theorem of_emit (start : Nat) (c : Code) (s : State) : StreamFrame s (emit start c s) := by
  have htrk : s.trk.totalCodes ≤ (emit start c s).trk.totalCodes ∧ s.trk.totalBlocks ≤ (emit start c s).trk.totalBlocks ∧
      s.trk.totalMbs ≤ (emit start c s).trk.totalMbs := by
    cases h : isTerminal s.trk.firstOfBlock c with
    | false =>
      rw [emit_code h]
      exact ⟨Nat.le_succ _, Nat.le_refl _, Nat.le_refl _⟩
    | true =>
      rw [emit_eob h]
      refine ⟨Nat.le_succ _, Nat.le_succ _, ?_⟩
      simp only [Tracker.advanceEob]
      split <;> omega
  exact ⟨rfl, rfl, rfl, rfl, rfl, rfl, rfl, rfl, rfl, rfl, rfl, rfl, fun h => ⟨h, rfl, rfl, rfl⟩,
    fun h => ⟨Nat.le_refl _, h⟩, htrk.1, htrk.2.1, htrk.2.2⟩

theorem of_codewordStep {s t : State} {len : Nat} (h : CodewordStep s len t) : StreamFrame s t := by
  cases h with
  | fails e b v hb => exact (of_taken hb).trans (of_fail e _)
  | dc c p _ _ hbits => exact (of_taken (.inr ⟨Nat.le_add_right .., hbits⟩)).trans (of_emit _ _ _)
  | run c _ _ hbits => exact (of_taken (.inr ⟨Nat.le_add_right .., hbits⟩)).trans (of_emit _ _ _)
  | eob _ hbits => exact (of_taken (v := s.vpos) (p := s.prevDc) (.inr ⟨Nat.le_add_right .., hbits⟩)).trans (of_emit _ _ _)

/-- The filter writes only its own registers and its count. -/
theorem of_filterStep (first : Bool) (c : Code) (s : State) : StreamFrame s (filterStep first c s).2 := by
  obtain ⟨n, m, p, h⟩ := filterStep_state first c s
  rw [h]
  exact of_consumer rfl id

theorem of_continueDecode (s : State) : StreamFrame s (continueDecode s) := by
  unfold continueDecode
  split
  · exact refl s
  · exact (of_endFrame s).trans (of_finish _ _)

theorem of_reconDc (p : Passed) (s : State) : StreamFrame s (reconDc p s) := by
  unfold reconDc
  dsimp only
  split <;> exact of_consumer rfl id

theorem of_reconStore (p : Passed) (s : State) : StreamFrame s (reconStore p s) := by
  unfold reconStore
  split <;> exact of_consumer rfl id

theorem of_reconEob {i : Nat} {r : Role} {s t : State} (hrun : s.running = .decodeFrame)
    (h : reconEob i r s = .next t) : StreamFrame s t := by
  have hwrite (f : Nat → Sample) : StreamFrame s (writeBlock i r f s) := by
    obtain ⟨y, cb, cr, hw⟩ := writeBlock_withPlanes i r f s
    rw [hw]
    exact of_withPlanes hrun y cb cr
  unfold reconEob at h
  repeat' split at h
  all_goals cases h
  all_goals exact hwrite _

theorem of_reconstruct {e : Emitted} {terminal : Bool} {p : Passed} {s t : State} (hrun : s.running = .decodeFrame)
    (h : reconstruct e terminal p s = .next t) : StreamFrame s t := by
  unfold reconstruct at h
  split at h
  · cases h
    exact (of_reconDc p s).trans (of_continueDecode _)
  split at h
  · split at h
    · cases h
      exact (of_reconEob hrun ‹_›).trans (of_continueDecode _)
    · cases h
    · cases h
  dsimp only at h
  have hadvance : StreamFrame s (reconAdvance p s) := of_consumer rfl id
  split at h
  · cases h
    exact hadvance.trans (of_fail _ _)
  · cases h
    exact hadvance.trans ((of_reconStore p _).trans (of_continueDecode _))

theorem of_deliver {terminal : Bool} {p : Passed} {s t : State} (h : deliver terminal p s = .next t) :
    StreamFrame s t := by
  unfold deliver at h
  split at h
  · cases h
    refine StreamFrame.trans ?_ (of_finish _ _)
    split
    · exact of_endFrame s
    · exact refl s
  · cases h

theorem of_consumeCode {c : Code} {e : Emitted} {s t : State} (h : consumeCode c e s = .next t) : StreamFrame s t := by
  have hrun : s.running ≠ .idle := fun hr => by
    simp only [consumeCode, hr] at h
    cases h
  have htaken : StreamFrame s s.taken := of_consumer rfl id
  have hfilter := htaken.trans (of_filterStep e.first c s.taken)
  obtain ⟨n, m, pend, hstate⟩ := filterStep_state e.first c s.taken
  rcases hf : filterStep e.first c s.taken with ⟨passed, u⟩
  rw [hf] at hfilter hstate
  have hu : u.running = s.running := by rw [show u = _ from hstate]; rfl
  cases passed with
  | none =>
    rw [consumeCode_absorbed hrun hf] at h
    cases h
    exact hfilter
  | some p =>
    cases hr : s.running with
    | idle => exact absurd hr hrun
    | readCode =>
      rw [consumeCode_codes hr hf] at h
      exact hfilter.trans (of_deliver h)
    | decodeFrame =>
      rw [consumeCode_pixels hr hf] at h
      exact hfilter.trans (of_reconstruct (hu.trans hr) h)

theorem of_codeword_instr {i : Instr} {code : Bits} {s t : State} (hi : encode i = .codeword code)
    (h : exec i s = .next t) : StreamFrame s t := of_codewordStep (exec_codeword_step hi h)

/-- Every instruction of a bitstream keeps the frame. -/
theorem of_exec_stream {i : Instr} {s t : State} (hi : contextOf i ≠ .command) (h : exec i s = .next t) :
    StreamFrame s t := by
  cases i with
  | configure | setQuant | loadFrame | readCode | decodeFrame | readRgb | readYcbcr420 | queryStatus => exact absurd rfl hi
  | mdecEob =>
    have h' : execMdecEob s = .next t := h
    unfold execMdecEob at h'
    repeat' split at h'
    · cases h'
    · cases h'
    · exact of_consumeCode h'
  | mdecDc q d =>
    have h' : execMdecDc q d s = .next t := h
    unfold execMdecDc at h'
    repeat' split at h'
    · cases h'
    · exact of_consumeCode h'
    · cases h'
  | mdecAc r l =>
    have h' : execMdecAc r l s = .next t := h
    unfold execMdecAc at h'
    repeat' split at h'
    · cases h'
    · cases h'
    · exact of_consumeCode h'
  | _ => exact of_codeword_instr rfl h

/-- A step inside an operation keeps the frame. -/
theorem of_step {s t : State} (hrun : s.running ≠ .idle) (h : step s = .next t) : StreamFrame s t := by
  simp only [step, if_neg hrun, operationStep] at h
  split at h
  case h_1 => cases h
  case h_2 f hf =>
    cases f with
    | instr i => exact of_exec_stream (fetchStream_contextOf hf) h
    | literalDc len delta => exact of_codewordStep (dcDiffCodeword_step (by simp) h)
    | literalDcField len d => exact of_codewordStep (dcFieldCodeword_step h)
    | literalAc len run level escape => exact of_codewordStep (acCodeword_step (by simp) h)
    | literalZeroEscape len run => exact of_codewordStep (zeroEscapeCodeword_step h)
    | endOfStream =>
      cases h
      exact of_fail _ _
    | corrupt cause value =>
      cases h
      exact of_fail _ _

/-- The loop of an operation keeps the frame. -/
theorem of_runLoop {fuel : Nat} {s t : State} (h : runLoop fuel s = .next t) : StreamFrame s t := by
  induction fuel generalizing s with
  | zero =>
    cases h
    exact refl _
  | succ fuel ih =>
    by_cases hrun : s.running = .idle
    · rw [runLoop_idle _ hrun] at h
      cases h
      exact refl _
    · rw [runLoop_succ _ hrun] at h
      split at h
      case h_1 u hu => exact (of_step hrun hu).trans (ih h)
      case h_2 => cases h
      case h_3 => cases h

/-- The start of READ_CODE's loop. -/
theorem of_startReadCode (s : State) : StreamFrame s (startLoop .readCode { s with frameMode := .codes }) :=
  of_consumer rfl fun _ h => nomatch h

end StreamFrame

/-! ## The frame of a host command -/

/-- A host command completes only between operations (70_reset_and_hazards.md R760). -/
theorem whenIdle_eq_next {s t : State} {k : Result} (h : whenIdle s k = .next t) : s.running = .idle ∧ k = .next t := by
  unfold whenIdle at h
  split at h
  · exact ⟨‹_›, h⟩
  · cases h

/-- A refusal changes the outcome alone. -/
theorem StreamFrame.of_refuse {s t : State} (h : refuse s = .next t) : StreamFrame s t := by
  cases h
  exact of_consumer rfl id

/-- The recorded error changes the outcome alone. -/
theorem StreamFrame.of_returnRecorded {s t : State} (h : returnRecorded s = .next t) : StreamFrame s t := by
  unfold returnRecorded at h
  split at h
  · cases h
    exact of_consumer rfl id
  · cases h

theorem StreamFrame.of_readCode {s t : State} (h : exec .readCode s = .next t) : StreamFrame s t := by
  obtain ⟨hidle, -⟩ := whenIdle_eq_next h
  rw [exec_readCode_of_idle hidle] at h
  have hmode : StreamFrame s { s with frameMode := .codes } := of_consumer rfl id
  repeat' split at h
  · exact of_refuse h
  · cases h
    exact of_consumer rfl id
  · exact hmode.trans (of_returnRecorded h)
  · exact (of_startReadCode s).trans (of_runLoop h)

/-- DECODE_FRAME keeps what a state inside it keeps. -/
theorem StreamFrame.of_decodeFrame {s t : State} (h : exec .decodeFrame s = .next t) :
    StreamFrame { s with running := .decodeFrame } t := by
  obtain ⟨hidle, -⟩ := whenIdle_eq_next h
  rw [exec_decodeFrame_of_idle hidle] at h
  have hpixels {r : Running} : StreamFrame { s with running := .decodeFrame } { s with frameMode := .pixels, running := r } :=
    of_consumer rfl fun h => absurd rfl h
  repeat' split at h
  · cases h
    exact of_consumer rfl fun h => absurd rfl h
  · obtain ⟨y, cb, cr, hfill⟩ := zeroFillFrom_withPlanes 0 .cr { s with frameMode := .pixels }
    rw [hfill] at h
    have hplanes := of_withPlanes (s := { s with running := .decodeFrame, frameMode := .pixels }) rfl y cb cr
    have hrun : StreamFrame ({ s with running := .decodeFrame, frameMode := .pixels }.withPlanes y cb cr)
        ({ s with frameMode := .pixels }.withPlanes y cb cr) := of_consumer rfl fun h => absurd rfl h
    exact hpixels.trans (hplanes.trans (hrun.trans (of_returnRecorded h)))
  · cases h
    exact hpixels.trans ((of_endFrame _).trans (of_finish _ _))
  · have hstart : StreamFrame { s with running := .decodeFrame }
        (startLoop .decodeFrame { s with frameMode := .pixels }) := of_consumer rfl fun h => absurd rfl h
    exact hstart.trans (of_runLoop h)

theorem StreamFrame.of_queryStatus {s t : State} (h : exec .queryStatus s = .next t) : StreamFrame s t := by
  obtain ⟨hidle, -⟩ := whenIdle_eq_next h
  rw [exec_queryStatus_of_idle hidle] at h
  cases h
  exact of_consumer rfl id

/-- The parse writes `FMT` and `HDR` alone (41_entropy_header.md R255, R256). -/
theorem identify_state (s : State) : ∃ fmt hdr, (identify s).state = { s with fmt := fmt, hdr := hdr } := by
  have hmain (b : Nat) (s : State) : ∃ hdr, (parseMainline b s).state = { s with hdr := hdr } := by
    unfold parseMainline
    dsimp only
    repeat' split
    all_goals exact ⟨_, rfl⟩
  have htitle (f : TitleFormat) : ∃ fmt hdr, (parseTitle f s).state = { s with fmt := fmt, hdr := hdr } := by
    unfold parseTitle
    dsimp only
    split <;> exact ⟨_, _, rfl⟩
  unfold identify
  dsimp only
  split
  · obtain ⟨hdr, h⟩ := hmain 0 s
    split
    · exact ⟨_, hdr, h⟩
    · exact ⟨_, hdr, by rw [h]⟩
  split
  · obtain ⟨hdr, h⟩ := hmain 40 { s with fmt := some .prefix40 }
    exact ⟨_, hdr, h⟩
  split
  · exact htitle _
  · exact ⟨_, _, rfl⟩

/-- LOAD_FRAME writes the frame and the decoder's registers, and neither the configuration nor the images
(70_reset_and_hazards.md R752, R763). -/
theorem exec_loadFrame_state {bytes : List Byte} {s t : State} (h : exec (.loadFrame bytes) s = .next t) :
    t = { s with
      reply := t.reply, qtActive := t.qtActive, inBuf := t.inBuf, fmt := t.fmt, hdr := t.hdr, bitPos := t.bitPos
      streamBits := t.streamBits, dstate := t.dstate, trk := t.trk, vpos := t.vpos, prevDc := t.prevDc
      degenCount := t.degenCount, pendRun := t.pendRun, status := t.status, frameMode := t.frameMode } := by
  obtain ⟨hidle, hk⟩ := whenIdle_eq_next h
  split at hk
  · cases hk
    rfl
  · rename_i hconf
    rw [exec_loadFrame_of_idle hidle (by simpa using hconf)] at h
    obtain ⟨fmt, hdr, hstate⟩ := identify_state (frameStart bytes s)
    rw [hstate] at h
    split at h
    · cases h
      rfl
    · cases h
      unfold beginStream
      dsimp only
      split <;> rfl

/-- SET_QUANT writes `QT` alone (47_host_interface.md R651). -/
theorem exec_setQuant_state {table : List Int} {s t : State} (h : exec (.setQuant table) s = .next t) :
    t = { s with qt := t.qt, reply := t.reply } := by
  obtain ⟨hidle, -⟩ := whenIdle_eq_next h
  rw [exec_setQuant_of_idle hidle] at h
  repeat' split at h
  all_goals
    cases h
    rfl

/-- READ_RGB writes its array alone (46_color.md R600). -/
theorem exec_readRgb_state {len offset stride : Nat} {s t : State} (h : exec (.readRgb len offset stride) s = .next t) :
    t = { s with outRgb := t.outRgb, reply := t.reply } := by
  obtain ⟨hidle, -⟩ := whenIdle_eq_next h
  rw [exec_readRgb_of_idle hidle] at h
  repeat' split at h
  all_goals
    cases h
    rfl

/-- READ_YCBCR420 writes its array alone (46_color.md R600). -/
theorem exec_readYcbcr420_state {len : Nat} {space : Colorspace} {s t : State}
    (h : exec (.readYcbcr420 len space) s = .next t) : t = { s with outYuv := t.outYuv, reply := t.reply } := by
  obtain ⟨hidle, -⟩ := whenIdle_eq_next h
  rw [exec_readYcbcr420_of_idle hidle] at h
  repeat' split at h
  all_goals
    cases h
    rfl

/-- CONFIGURE leaves the host's arrays and requests alone (70_reset_and_hazards.md R750). -/
theorem exec_configure_outputs {w h : Int} {v : Variant} {m : Bool} {u : Upsampler} {s t : State}
    (hx : exec (.configure w h v m u) s = .next t) : t.outRgb = s.outRgb ∧ t.outYuv = s.outYuv := by
  obtain ⟨hidle, -⟩ := whenIdle_eq_next hx
  rw [exec_configure_of_idle hidle] at hx
  repeat' split at hx
  all_goals
    cases hx
    exact ⟨rfl, rfl⟩

/-- Which frame an instruction keeps: one of the stream's, or that of the one command it is. -/
inductive ExecFrame (s t : State) : Instr → Prop where
  | stream (i : Instr) (h : StreamFrame s t) : ExecFrame s t i
  | decodeFrame (h : StreamFrame { s with running := .decodeFrame } t) : ExecFrame s t .decodeFrame
  | setQuant (table : List Int) (h : t = { s with qt := t.qt, reply := t.reply }) : ExecFrame s t (.setQuant table)
  | loadFrame (bytes : List Byte) (h : exec (.loadFrame bytes) s = .next t) : ExecFrame s t (.loadFrame bytes)
  | readRgb (len offset stride : Nat) (h : t = { s with outRgb := t.outRgb, reply := t.reply }) :
      ExecFrame s t (.readRgb len offset stride)
  | readYcbcr420 (len : Nat) (space : Colorspace) (h : t = { s with outYuv := t.outYuv, reply := t.reply }) :
      ExecFrame s t (.readYcbcr420 len space)
  | configure (w h : Int) (v : Variant) (m : Bool) (u : Upsampler) (hout : t.outRgb = s.outRgb ∧ t.outYuv = s.outYuv) :
      ExecFrame s t (.configure w h v m u)

theorem execFrame {i : Instr} {s t : State} (h : exec i s = .next t) : ExecFrame s t i := by
  by_cases hi : contextOf i = .command
  · cases i with
    | configure w ht v m u => exact .configure w ht v m u (exec_configure_outputs h)
    | setQuant table => exact .setQuant table (exec_setQuant_state h)
    | loadFrame bytes => exact .loadFrame bytes h
    | readCode => exact .stream _ (.of_readCode h)
    | decodeFrame => exact .decodeFrame (.of_decodeFrame h)
    | readRgb len offset stride => exact .readRgb len offset stride (exec_readRgb_state h)
    | readYcbcr420 len space => exact .readYcbcr420 len space (exec_readYcbcr420_state h)
    | queryStatus => exact .stream _ (.of_queryStatus h)
    | _ => cases hi
  · exact .stream i (.of_exec_stream hi h)

/-! ## The obligations -/

/-- Settles O57: only the three commands are not within the frame of the stream. -/
theorem whoWritesTheConfiguration : Obligations.WhoWritesTheConfiguration := by
  intro i s t h hconfigure
  cases execFrame h with
  | stream _ hf =>
    exact ⟨hf.cfg, hf.configured, hf.params, hf.hostIn, fun _ => hf.qt,
      fun _ => ⟨hf.qtActive, hf.inBuf, hf.fmt, hf.hdr, hf.streamBits⟩⟩
  | decodeFrame hf =>
    exact ⟨hf.cfg, hf.configured, hf.params, hf.hostIn, fun _ => hf.qt,
      fun _ => ⟨hf.qtActive, hf.inBuf, hf.fmt, hf.hdr, hf.streamBits⟩⟩
  | setQuant table ht =>
    rw [ht]
    exact ⟨rfl, rfl, rfl, rfl, fun hn => absurd rfl (hn table), fun _ => ⟨rfl, rfl, rfl, rfl, rfl⟩⟩
  | loadFrame bytes ht =>
    rw [exec_loadFrame_state ht]
    exact ⟨rfl, rfl, rfl, rfl, fun _ => rfl, fun hn => absurd rfl (hn bytes)⟩
  | readRgb len offset stride ht =>
    rw [ht]
    exact ⟨rfl, rfl, rfl, rfl, fun _ => rfl, fun _ => ⟨rfl, rfl, rfl, rfl, rfl⟩⟩
  | readYcbcr420 len space ht =>
    rw [ht]
    exact ⟨rfl, rfl, rfl, rfl, fun _ => rfl, fun _ => ⟨rfl, rfl, rfl, rfl, rfl⟩⟩
  | configure w ht v m u => exact absurd rfl (hconfigure w ht v m u)

/-- Settles O58: the stream's frame has the position grow within the stream; the other commands leave it. -/
theorem nothingIsRewound : Obligations.NothingIsRewound := by
  intro i s t h hconfigure hload hbits
  have hstay {u : State} (hb : u.bitPos = s.bitPos) (hs : u.streamBits = s.streamBits) (ht : u.trk = s.trk) :
      s.bitPos ≤ u.bitPos ∧ u.bitPos ≤ u.streamBits ∧ s.trk.totalCodes ≤ u.trk.totalCodes ∧
      s.trk.totalBlocks ≤ u.trk.totalBlocks ∧ s.trk.totalMbs ≤ u.trk.totalMbs := by
    rw [hb, hs, ht]
    exact ⟨Nat.le_refl _, hbits, Nat.le_refl _, Nat.le_refl _, Nat.le_refl _⟩
  cases execFrame h with
  | stream _ hf =>
    obtain ⟨hle, hend⟩ := hf.bitPos hbits
    exact ⟨hle, hf.streamBits ▸ hend, hf.totalCodes, hf.totalBlocks, hf.totalMbs⟩
  | decodeFrame hf =>
    obtain ⟨hle, hend⟩ := hf.bitPos hbits
    exact ⟨hle, hf.streamBits ▸ hend, hf.totalCodes, hf.totalBlocks, hf.totalMbs⟩
  | setQuant table ht => rw [ht]; exact hstay rfl rfl rfl
  | loadFrame bytes _ => exact absurd rfl (hload bytes)
  | readRgb len offset stride ht => rw [ht]; exact hstay rfl rfl rfl
  | readYcbcr420 len space ht => rw [ht]; exact hstay rfl rfl rfl
  | configure w ht v m u => exact absurd rfl (hconfigure w ht v m u)

/-- Settles O59: outside DECODE_FRAME the stream's frame has the planes, and everywhere the host's arrays. -/
theorem whoWritesTheImages : Obligations.WhoWritesTheImages := by
  intro i s t h
  cases execFrame h with
  | stream _ hf => exact ⟨fun _ _ hrun => (hf.planes hrun).2, fun _ => hf.outRgb, fun _ => hf.outYuv⟩
  | decodeFrame hf => exact ⟨fun _ hn => absurd rfl hn, fun _ => hf.outRgb, fun _ => hf.outYuv⟩
  | setQuant table ht => rw [ht]; exact ⟨fun _ _ _ => ⟨rfl, rfl, rfl⟩, fun _ => rfl, fun _ => rfl⟩
  | loadFrame bytes ht =>
    rw [exec_loadFrame_state ht]
    exact ⟨fun _ _ _ => ⟨rfl, rfl, rfl⟩, fun _ => rfl, fun _ => rfl⟩
  | readRgb len offset stride ht =>
    rw [ht]
    exact ⟨fun _ _ _ => ⟨rfl, rfl, rfl⟩, fun hn => absurd rfl (hn len offset stride), fun _ => rfl⟩
  | readYcbcr420 len space ht =>
    rw [ht]
    exact ⟨fun _ _ _ => ⟨rfl, rfl, rfl⟩, fun _ => rfl, fun hn => absurd rfl (hn len space)⟩
  | configure w ht v m u hout => exact ⟨fun hn => absurd rfl (hn w ht v m u), fun _ => hout.1, fun _ => hout.2⟩

end Sys2Proof.Machine

/-! PROOFS. The invariant by its parts, and what each operation does to them (10_state.md). -/

namespace Sys2Proof.Machine

/-! ## The parts of the invariant -/

/-- The planes and the host's arrays (10_state.md R69; 20_memory.md R120). -/
structure ImageInv (s : State) : Prop where
  plane : ∀ p, PlaneInv s p
  outRgb : Memory.wf none s.outRgb = true
  outYuv : Memory.wf none s.outYuv = true

/-- The configuration and the header (10_state.md R53, R58, R59; 70_reset_and_hazards.md R751, R753). -/
structure FrameInv (s : State) : Prop where
  size : s.configured = true →
    1 ≤ s.cfg.width.toNat ∧ s.cfg.width.toNat ≤ s.params.maxDim.toNat ∧
    1 ≤ s.cfg.height.toNat ∧ s.cfg.height.toNat ≤ s.params.maxDim.toNat
  unconfigured : s.configured = false → s.dstate = .idle ∧ s.running = .idle
  qscale : s.hdr.qscaleL ≠ some 0#6 ∧ s.hdr.qscaleC ≠ some 0#6
  header : s.dstate = .active ∨ s.dstate = .done →
    s.fmt ≠ none ∧ s.hdr.qscaleL ≠ none ∧ s.hdr.qscaleC ≠ none ∧ s.hdr.dcMode ≠ none ∧ s.hdr.acTable ≠ none ∧
      s.hdr.body ≠ none
  title : s.hdr.acTable = some .title → ∃ t f, s.fmt = some (.title t) ∧ titleFormat? s.params t = some f
  streamBits : s.dstate = .active ∨ s.dstate = .done →
    s.streamBits = 16 * ((s.inBuf.length - s.hdr.body.getD 0) / 2)

/-- The position tracker (40_mdec_code.md R213 to R215). -/
structure TrackerInv (s : State) : Prop where
  totalMbs : s.trk.totalMbs = s.trk.mbIndex
  totalBlocks : s.trk.totalBlocks = 6 * s.trk.mbIndex + s.trk.role.index
  firstOfBlock : s.trk.firstOfBlock = true ↔ s.trk.codesInBlock = 0
  mbIndex : s.configured = true → s.trk.mbIndex ≤ s.cfg.mbCount ∧ (s.trk.mbIndex = s.cfg.mbCount ↔ s.dstate = .done)
  doneRole : s.dstate = .done → s.trk.role = .cr ∧ s.trk.firstOfBlock = true

/-- The decoder's registers (10_state.md R60, R63, R64). -/
structure DecoderInv (s : State) : Prop where
  bitPos : s.bitPos ≤ s.streamBits
  vpos : s.vpos ≤ 63
  prevDc : ∀ r : Role, -512 ≤ s.prevDc.get r ∧ s.prevDc.get r ≤ 511
  noPrevDc : s.hdr.dcMode ≠ some .diff → s.prevDc = ⟨0, 0, 0⟩

/-- The recorded error and the count of degenerate codes (10_state.md R70; 60_exceptions.md R712). -/
structure StatusInv (s : State) : Prop where
  failed : s.dstate = .failed ↔ s.status.errKind ≠ .none
  recorded : s.dstate = .failed → recordedReply s ≠ none
  degenCount : s.status.degenCount = s.degenCount
  degenerate : s.running = .idle → s.dstate = .done ∨ s.dstate = .failed → 0 < s.degenCount →
    s.status.warn.degenerateCodes = true

/-- The registers of the reconstruction engine (10_state.md R67, R68). -/
structure EngineInv (s : State) : Prop where
  blk : ∀ i : Fin 64, sampleKind s.cfg.variant s.blk[i] = true
  nzCount : s.nzCount ≤ s.rpos + 1
  lastNz : 1 ≤ s.nzCount → s.lastNz ≠ none
  rpos : s.rpos ≤ 63

/-- The operation that runs, the code that waits and the run the filter holds back (10_state.md R66, R73). -/
structure OperationInv (s : State) : Prop where
  noMerge : s.cfg.filterMerge = false → s.pendRun = none
  pending : s.emitted = none → s.pending ≤ s.vpos ∧ (s.trk.firstOfBlock = true → s.pendRun = none)
  pendingFit : s.pending ≤ 63
  idle : s.running = .idle → s.emitted = none
  readCode : s.running = .readCode → s.frameMode = .codes
  decodeFrame : s.running = .decodeFrame → s.frameMode = .pixels
  reading : s.running ≠ .idle → s.emitted = none → s.dstate = .active
  consuming : s.running ≠ .idle → s.dstate = .active ∨ s.dstate = .done
  pixels : s.dstate = .active → s.frameMode = .pixels → s.running = .decodeFrame
  fresh : s.dstate = .active → s.frameMode = .none → s.trk = Tracker.initial
  position : s.running = .decodeFrame → s.emitted = none → s.trk.firstOfBlock = false →
    s.rpos + s.pending = s.vpos
  emitted : ∀ e, s.emitted = some e → EmittedInv s e

namespace State.Inv

variable {s : State}

theorem image (h : s.Inv) : ImageInv s := ⟨h.plane, h.outRgb, h.outYuv⟩

theorem frame (h : s.Inv) : FrameInv s := ⟨h.size, h.unconfigured, h.qscale, h.header, h.title, h.streamBits⟩

theorem tracker (h : s.Inv) : TrackerInv s := ⟨h.totalMbs, h.totalBlocks, h.firstOfBlock, h.mbIndex, h.doneRole⟩

theorem decoder (h : s.Inv) : DecoderInv s := ⟨h.bitPos, h.vpos, h.prevDc, h.noPrevDc⟩

theorem engine (h : s.Inv) : EngineInv s := ⟨h.blk, h.nzCount, h.lastNz, h.rpos⟩

theorem operation (h : s.Inv) : OperationInv s :=
  ⟨h.noMerge, h.pending, h.pendingFit, h.idle, h.readCode, h.decodeFrame, h.reading, h.consuming, h.pixels, h.fresh,
    h.position, h.emitted⟩

/-- The invariant is the conjunction of its parts. -/
theorem of_parts (i : ImageInv s) (f : FrameInv s) (k : TrackerInv s) (d : DecoderInv s) (u : StatusInv s)
    (g : EngineInv s) (o : OperationInv s) : s.Inv where
  size := f.size
  unconfigured := f.unconfigured
  planeY := i.plane .y
  planeCb := i.plane .cb
  planeCr := i.plane .cr
  outRgb := i.outRgb
  outYuv := i.outYuv
  blk := g.blk
  totalMbs := k.totalMbs
  totalBlocks := k.totalBlocks
  firstOfBlock := k.firstOfBlock
  mbIndex := k.mbIndex
  doneRole := k.doneRole
  bitPos := d.bitPos
  vpos := d.vpos
  prevDc := d.prevDc
  noPrevDc := d.noPrevDc
  qscale := f.qscale
  header := f.header
  title := f.title
  streamBits := f.streamBits
  failed := u.failed
  recorded := u.recorded
  noMerge := o.noMerge
  pending := o.pending
  pendingFit := o.pendingFit
  nzCount := g.nzCount
  lastNz := g.lastNz
  rpos := g.rpos
  idle := o.idle
  readCode := o.readCode
  decodeFrame := o.decodeFrame
  reading := o.reading
  consuming := o.consuming
  pixels := o.pixels
  fresh := o.fresh
  position := o.position
  emitted := o.emitted
  degenCount := u.degenCount
  degenerate := u.degenerate

/-- An operation runs only on a configured core (70_reset_and_hazards.md R751). -/
theorem configured_of_running (h : s.Inv) (hrun : s.running ≠ .idle) : s.configured = true := by
  by_contra hc
  exact hrun (h.unconfigured (Bool.eq_false_iff.mpr hc)).2

/-- A frame that is ACTIVE has a macroblock left (40_mdec_code.md R214). -/
theorem mbIndex_lt (h : s.Inv) (hconf : s.configured = true) (hactive : s.dstate = .active) :
    s.trk.mbIndex < s.cfg.mbCount := by
  obtain ⟨hle, hdone⟩ := h.mbIndex hconf
  refine Nat.lt_of_le_of_ne hle fun heq => ?_
  rw [hdone.mp heq] at hactive
  cases hactive

end State.Inv

/-! ## The planes -/

/-- The parts that an operation leaves alone keep their clauses: the planes. -/
theorem PlaneInv.congr {s t : State} {p : PlaneId} (h : PlaneInv s p) (hcfg : t.cfg = s.cfg)
    (hp : t.plane p = s.plane p) : PlaneInv t p where
  wf := by rw [hcfg, hp]; exact h.wf
  inside := by rw [hcfg, hp]; exact h.inside
  kind := by rw [hcfg, hp]; exact h.kind

/-- An empty plane is all zero. -/
theorem PlaneInv.of_nil {s : State} {p : PlaneId} (h : s.plane p = []) : PlaneInv s p where
  wf := by rw [h]; rfl
  inside := by rw [h]; exact fun e he => nomatch he
  kind := by rw [h]; exact fun e he => nomatch he

/-- A write lists nothing but what was listed and the written values (20_memory.md R120). -/
theorem mem_foldl_write {β : Type} {rest : Sample} (addr : β → Nat) (val : β → Sample) (l : List β) {m : Memory Sample}
    {e : Nat × Sample} (h : e ∈ l.foldl (fun m x => Memory.write rest m (addr x) (val x)) m) :
    e ∈ m ∨ ∃ x ∈ l, e = (addr x, val x) ∧ val x ≠ rest := by
  induction l generalizing m with
  | nil => exact .inl h
  | cons x l ih =>
    rcases ih h with h | ⟨y, hy, heq⟩
    · rcases Memory.mem_write h with h | h
      · exact .inl h
      · exact .inr ⟨x, List.mem_cons_self .., h⟩
    · exact .inr ⟨y, List.mem_cons_of_mem _ hy, heq⟩

/-- A block write keeps the planes in form: its samples are of the variant and zero, or inside (20_memory.md R120). -/
theorem PlaneInv.writeBlock {s : State} (h : ∀ p, PlaneInv s p) {i : Nat} {r : Role} {f : Nat → Sample}
    (hf : ∀ k, f k = zeroSample s.cfg.variant ∨ i < s.cfg.mbCount ∧ sampleKind s.cfg.variant (f k) = true)
    (p : PlaneId) : PlaneInv (writeBlock i r f s) p := by
  by_cases hp : p = r.plane
  case neg =>
    exact (h p).congr (setPlane_cfg ..) (by rw [Machine.writeBlock, plane_setPlane, if_neg hp])
  subst hp
  have hplane : (Machine.writeBlock i r f s).plane r.plane = blockWrites (zeroSample s.cfg.variant)
      (r.plane.stride s.cfg) (blockOrigin s.cfg i r).1 (blockOrigin s.cfg i r).2 f (s.plane r.plane) := by
    rw [Machine.writeBlock, plane_setPlane, if_pos rfl]
  have hcfg : (Machine.writeBlock i r f s).cfg = s.cfg := setPlane_cfg ..
  have hmem {e : Nat × Sample} (he : e ∈ (Machine.writeBlock i r f s).plane r.plane) :
      e ∈ s.plane r.plane ∨ (e.1 < r.plane.stride s.cfg * r.plane.rows s.cfg ∧ sampleKind s.cfg.variant e.2 = true) := by
    rw [hplane] at he
    rcases mem_foldl_write (blockAddress _ _ _) f (List.range 64) he with he | ⟨k, hk, rfl, hne⟩
    · exact .inl he
    · obtain ⟨hi, hkind⟩ := (hf k).resolve_left hne
      have hk64 := List.mem_range.mp hk
      obtain ⟨hx, hy⟩ := inside_block (x := k % 8) (y := k / 8) r hi (by omega) (by omega)
      refine .inr ⟨?_, hkind⟩
      calc blockAddress (r.plane.stride s.cfg) (blockOrigin s.cfg i r).1 (blockOrigin s.cfg i r).2 k
          < ((blockOrigin s.cfg i r).2 + k / 8) * r.plane.stride s.cfg + r.plane.stride s.cfg :=
            Nat.add_lt_add_left hx _
        _ = ((blockOrigin s.cfg i r).2 + k / 8 + 1) * r.plane.stride s.cfg := (Nat.succ_mul _ _).symm
        _ ≤ r.plane.rows s.cfg * r.plane.stride s.cfg := Nat.mul_le_mul_right _ hy
        _ = r.plane.stride s.cfg * r.plane.rows s.cfg := Nat.mul_comm ..
  refine ⟨?_, fun e he => ?_, fun e he => ?_⟩
  · rw [hcfg, hplane]
    exact blockWrites_wf _ _ _ _ _ (h r.plane).wf
  · rw [hcfg]
    exact (hmem he).elim ((h r.plane).inside e) And.left
  · rw [hcfg]
    exact (hmem he).elim ((h r.plane).kind e) And.right

/-- The zero-fill keeps the planes in form (45_reconstruction.md R573). -/
theorem PlaneInv.zeroFillFrom {s : State} (h : ∀ p, PlaneInv s p) (i : Nat) (r : Role) (p : PlaneId) :
    PlaneInv (zeroFillFrom i r s) p := by
  have hfold : ∀ (l : List Nat) (s : State), (∀ p, PlaneInv s p) → ∀ k p, PlaneInv
      (l.foldl (fun s j => zeroBlock ((k + j) / 6) (roleOfIndex ((k + j) % 6)) s) s) p := by
    intro l
    induction l with
    | nil => exact fun s h k p => h p
    | cons j l ih => exact fun s h k p => ih _ (PlaneInv.writeBlock h fun _ => .inl rfl) k p
  exact hfold _ s h _ p

theorem ImageInv.congr {s t : State} (h : ImageInv s) (hcfg : t.cfg = s.cfg) (hplane : ∀ p, t.plane p = s.plane p)
    (hrgb : t.outRgb = s.outRgb) (hyuv : t.outYuv = s.outYuv) : ImageInv t where
  plane p := (h.plane p).congr hcfg (hplane p)
  outRgb := by rw [hrgb]; exact h.outRgb
  outYuv := by rw [hyuv]; exact h.outYuv

end Sys2Proof.Machine

/-! PROOFS. A codeword keeps the invariant (10_state.md; 40_mdec_code.md R213, R214; 43_entropy_ac.md R353). -/

namespace Sys2Proof.Machine

/-- Inside an operation the configuration and the header stand. -/
theorem FrameInv.of_streamFrame {s t : State} (h : FrameInv s) (hrun : s.running ≠ .idle) (hf : StreamFrame s t)
    (hd : t.dstate = .active ∨ t.dstate = .done → s.dstate = .active ∨ s.dstate = .done) : FrameInv t where
  size := by rw [hf.configured, hf.cfg, hf.params]; exact h.size
  unconfigured hc := absurd (h.unconfigured (hf.configured ▸ hc)).2 hrun
  qscale := by rw [hf.hdr]; exact h.qscale
  header ht := by rw [hf.fmt, hf.hdr]; exact h.header (hd ht)
  title := by rw [hf.hdr, hf.fmt, hf.params]; exact h.title
  streamBits ht := by rw [hf.streamBits, hf.inBuf, hf.hdr]; exact h.streamBits (hd ht)

/-! ## A frame error -/

/-- A frame error keeps the planes in form (45_reconstruction.md R573). -/
theorem ImageInv.fail {s : State} (h : ImageInv s) (e : FrameError) : ImageInv (fail e s) := by
  have hend (u : State) (hu : ImageInv u) : ImageInv (finish e.reply (endFrame (recordError e u))) :=
    hu.congr (by simp) (fun p => by cases p <;> simp [State.plane]) (by simp) (by simp)
  cases hrun : s.running with
  | decodeFrame =>
    simp only [Machine.fail, hrun]
    obtain ⟨y, cb, cr, hfill⟩ := zeroFillFrom_withPlanes s.trk.mbIndex s.trk.role s
    refine hend _ ⟨PlaneInv.zeroFillFrom h.plane _ _, ?_, ?_⟩
    · rw [hfill]; exact h.outRgb
    · rw [hfill]; exact h.outYuv
  | readCode | idle =>
    simp only [Machine.fail, hrun]
    exact hend s h

/-- The state a frame error leaves, but for the planes (60_exceptions.md R712). -/
def State.failedWith (s : State) (cause : Option Cause) (ctx : Ctx) : State :=
  { s with
    running := .idle
    emitted := none
    dstate := .failed
    status :=
      { errKind := if cause = none then .endOfStream else .readCorruption
        errCause := cause
        errCtx := some ctx
        warn := { s.status.warn with
          degenerateCodes := s.status.warn.degenerateCodes || decide (0 < s.degenCount) }
        degenCount := s.degenCount }
    reply := some (match cause with | none => .endOfStream ctx | some c => .readCorruption c ctx) }

theorem FrameFails.exists_planes {s t : State} {cause : Option Cause} {ctx : Ctx} (h : FrameFails s t cause ctx) :
    ∃ y cb cr, t = (s.failedWith cause ctx).withPlanes y cb cr := ⟨t.planeY, t.planeCb, t.planeCr, h.1⟩

/-- The recorded error is returned (60_exceptions.md R712). -/
theorem recordedReply_frameFails {s t : State} {cause : Option Cause} {ctx : Ctx} (h : FrameFails s t cause ctx) :
    recordedReply t = t.reply ∧ t.reply ≠ none := by
  obtain ⟨y, cb, cr, rfl⟩ := h.exists_planes
  cases cause <;> exact ⟨rfl, nofun⟩

/-- An error of the decoder keeps the invariant. -/
theorem State.Inv.fail {s : State} (h : s.Inv) (hrun : s.running ≠ .idle) (hwait : s.emitted = none) (e : FrameError)
    {b v : Nat} (hb : b = s.bitPos ∨ s.bitPos ≤ b ∧ b ≤ s.streamBits) (hv : v = s.vpos ∨ s.vpos ≤ v ∧ v ≤ 63) :
    (Machine.fail e { s with bitPos := b, vpos := v }).Inv := by
  have himage : ImageInv (Machine.fail e { s with bitPos := b, vpos := v }) :=
    ImageInv.fail (s := { s with bitPos := b, vpos := v }) (h.image.congr rfl (fun p => by cases p <;> rfl) rfl rfl) e
  have hstream : StreamFrame s (Machine.fail e { s with bitPos := b, vpos := v }) :=
    (StreamFrame.of_taken (p := s.prevDc) hb).trans (.of_fail e _)
  have hfails := fail_frameFails e { s with bitPos := b, vpos := v }
  have hrecorded := recordedReply_frameFails hfails
  obtain ⟨hpend, hboundary⟩ := h.pending hwait
  have hbits := h.bitPos
  have hvpos := h.vpos
  have hpendle : s.pending ≤ v := by omega
  generalize Machine.fail e { s with bitPos := b, vpos := v } = t at himage hstream hfails hrecorded ⊢
  obtain ⟨y, cb, cr, rfl⟩ := hfails.exists_planes
  have hnot : s.trk.mbIndex ≠ s.cfg.mbCount := (h.mbIndex_lt (h.configured_of_running hrun) (h.reading hrun hwait)).ne
  refine .of_parts himage (h.frame.of_streamFrame hrun hstream (Or.rec nofun nofun)) ?tracker ?decoder ?status ?engine
    ?operation
  case tracker =>
    exact ⟨h.totalMbs, h.totalBlocks, h.firstOfBlock,
      fun hc => ⟨(h.mbIndex hc).1, fun heq => absurd heq hnot, nofun⟩, nofun⟩
  case decoder => exact ⟨by show b ≤ s.streamBits; omega, by show v ≤ 63; omega, h.prevDc, h.noPrevDc⟩
  case status =>
    refine ⟨iff_of_true rfl ?_, fun _ => by rw [hrecorded.1]; exact hrecorded.2, rfl, fun _ _ hcount => ?_⟩
    · cases e <;> exact nofun
    · exact Bool.or_eq_true_iff.mpr (.inr (decide_eq_true hcount))
  case engine => exact ⟨h.blk, h.nzCount, h.lastNz, h.rpos⟩
  case operation =>
    exact ⟨h.noMerge, fun _ => ⟨hpendle, hboundary⟩, h.pendingFit, fun _ => rfl, nofun, nofun,
      fun hr => absurd rfl hr, fun hr => absurd rfl hr, nofun, nofun, nofun, nofun⟩

/-! ## An emitted code -/

/-- The tracker's clauses after a code that does not end its block (40_mdec_code.md R213). -/
theorem TrackerInv.advanceCode {s t : State} (h : TrackerInv s) (hactive : s.dstate = .active)
    (htrk : t.trk = s.trk.advanceCode) (hd : t.dstate = s.dstate) (hcfg : t.cfg = s.cfg)
    (hconf : t.configured = s.configured) : TrackerInv t where
  totalMbs := by rw [htrk]; exact h.totalMbs
  totalBlocks := by rw [htrk]; exact h.totalBlocks
  firstOfBlock := by rw [htrk]; simp [Tracker.advanceCode]
  mbIndex := by rw [htrk, hd, hcfg, hconf]; exact h.mbIndex
  doneRole := by rw [hd, hactive]; simp

/-- The tracker's clauses after the end of block (40_mdec_code.md R214). -/
theorem TrackerInv.advanceEob {s t : State} (h : TrackerInv s) (hactive : s.dstate = .active)
    (hlt : s.trk.mbIndex < s.cfg.mbCount) (htrk : t.trk = s.trk.advanceEob) (hcfg : t.cfg = s.cfg)
    (hd : t.dstate = if s.trk.advanceEob.mbIndex = s.cfg.mbCount then .done else s.dstate) : TrackerInv t := by
  have hrole : s.trk.role.next.index = if s.trk.role = .y4 then 0 else s.trk.role.index + 1 := by
    cases s.trk.role <;> rfl
  have hlast : s.trk.role = .y4 → s.trk.role.index = 5 := fun h => by rw [h]; rfl
  have hindex : s.trk.advanceEob.mbIndex = if s.trk.role = .y4 then s.trk.mbIndex + 1 else s.trk.mbIndex := rfl
  have hmbs := h.totalMbs
  have hblocks := h.totalBlocks
  refine ⟨?_, ?_, ?_, fun _ => ?_, fun hdone => ?_⟩
  · rw [htrk]
    simp only [Tracker.advanceEob]
    split <;> omega
  · rw [htrk]
    simp only [Tracker.advanceEob, hrole]
    split
    · have := hlast ‹_›
      omega
    · omega
  · rw [htrk]
    simp [Tracker.advanceEob]
  · rw [htrk, hd, hcfg, hactive]
    have hle : s.trk.advanceEob.mbIndex ≤ s.cfg.mbCount := by
      rw [hindex]
      split <;> omega
    by_cases hlast : s.trk.advanceEob.mbIndex = s.cfg.mbCount <;> simp [hlast, hle]
  · rw [htrk]
    rw [hd, hactive] at hdone
    split at hdone
    case isTrue hcount =>
      rw [hindex] at hcount
      split at hcount
      case isTrue hy4 => exact ⟨by simp [Tracker.advanceEob, hy4, Role.next], rfl⟩
      case isFalse => omega
    case isFalse => cases hdone

/-- The decoder's new position and predictors, which keep its clauses (10_state.md R60, R63, R64). -/
structure DecoderMove (s : State) (b v : Nat) (p : PrevDc) : Prop where
  bits : s.bitPos ≤ b ∧ b ≤ s.streamBits
  vpos : v ≤ 63
  prevDc : ∀ r : Role, -512 ≤ p.get r ∧ p.get r ≤ 511
  noPrevDc : s.hdr.dcMode ≠ some .diff → p = ⟨0, 0, 0⟩

/-- What an emitted code says of the position: a first code is at 0, a later one has moved it by its run and one
(43_entropy_ac.md R353). -/
structure CodePosition (s : State) (c : Code) (v : Nat) : Prop where
  dc : s.trk.firstOfBlock = true → v = 0
  run : s.trk.firstOfBlock = false → c.isEob = false → v = s.vpos + c.top6.toNat + 1

/-- The code emitted where an operation reads stands where the tracker was (47_host_interface.md R649). -/
theorem State.Inv.emittedInv {s t : State} (h : s.Inv) (hrun : s.running ≠ .idle) (hwait : s.emitted = none) {c : Code}
    {v : Nat} (hcode : CodePosition s c v)
    (ht : t = { s with bitPos := t.bitPos, vpos := v, prevDc := t.prevDc, emitted := t.emitted, trk := t.trk, dstate := t.dstate })
    (hbits : s.bitPos ≤ t.bitPos)
    (hadvance : (isTerminal s.trk.firstOfBlock c = false ∧ t.trk = s.trk.advanceCode ∧ t.dstate = s.dstate) ∨
      (isTerminal s.trk.firstOfBlock c = true ∧ t.trk = s.trk.advanceEob)) : EmittedInv t (s.emittedOf c) := by
  have hactive := h.reading hrun hwait
  obtain ⟨hpend, -⟩ := h.pending hwait
  have hvpos : t.vpos = v := by rw [ht]
  have hpending : t.pending = s.pending := by rw [ht]; rfl
  have hrpos : t.rpos = s.rpos := by rw [ht]
  have hrunning : t.running = s.running := by rw [ht]
  have hcfg : t.cfg = s.cfg := by rw [ht]
  refine ⟨?_, h.firstOfBlock, hbits, fun hterm => ?_, fun hterm => ?_, fun hfirst => ?_, fun hfirst heob => ?_,
    fun hpix hfirst heob => ?_⟩
  · rw [hcfg]
    exact h.mbIndex_lt (h.configured_of_running hrun) hactive
  · rcases hadvance with ⟨-, htrk, hd⟩ | ⟨hterm', -⟩
    · rw [htrk, hd]
      exact ⟨hactive, rfl, rfl, rfl, rfl⟩
    · exact absurd (hterm.symm.trans hterm') (by decide)
  · rcases hadvance with ⟨hterm', -⟩ | ⟨-, htrk⟩
    · exact absurd (hterm.symm.trans hterm') (by decide)
    · rw [htrk]
      exact ⟨rfl, rfl, rfl⟩
  · rw [hvpos]
    exact hcode.dc hfirst
  · have hv := hcode.run hfirst heob
    rw [hvpos, hpending]
    show s.pending + c.top6.toNat + 1 ≤ v
    omega
  · have hv := hcode.run hfirst heob
    have hpos := h.position (hrunning ▸ hpix) hwait hfirst
    rw [hvpos, hpending, hrpos]
    show s.rpos + s.pending + c.top6.toNat + 1 = v
    omega

/-- An emitted code keeps the invariant (40_mdec_code.md R213, R214). -/
theorem State.Inv.emit {s : State} (h : s.Inv) (hrun : s.running ≠ .idle) (hwait : s.emitted = none) {c : Code}
    {b v : Nat} {p : PrevDc} (hmove : DecoderMove s b v p) (hcode : CodePosition s c v) :
    (Machine.emit s.bitPos c { s with bitPos := b, prevDc := p, vpos := v }).Inv := by
  have hactive := h.reading hrun hwait
  have hlt := h.mbIndex_lt (h.configured_of_running hrun) hactive
  have hstream : StreamFrame s (Machine.emit s.bitPos c { s with bitPos := b, prevDc := p, vpos := v }) :=
    (StreamFrame.of_taken (.inr hmove.bits)).trans (.of_emit ..)
  have hstate : ∃ trk d, Machine.emit s.bitPos c { s with bitPos := b, prevDc := p, vpos := v } =
      { s with bitPos := b, prevDc := p, vpos := v, emitted := some (s.emittedOf c), trk := trk, dstate := d } ∧
      ((isTerminal s.trk.firstOfBlock c = false ∧ trk = s.trk.advanceCode ∧ d = s.dstate) ∨
       (isTerminal s.trk.firstOfBlock c = true ∧ trk = s.trk.advanceEob ∧
         d = if s.trk.advanceEob.mbIndex = s.cfg.mbCount then .done else s.dstate)) := by
    cases hterm : isTerminal s.trk.firstOfBlock c with
    | false => exact ⟨_, _, emit_code hterm, .inl ⟨rfl, rfl, rfl⟩⟩
    | true => exact ⟨_, _, emit_eob hterm, .inr ⟨rfl, rfl, rfl⟩⟩
  obtain ⟨trk, d, hemit, hadvance⟩ := hstate
  rw [hemit] at hstream ⊢
  have hd : d = .active ∨ d = .done := by
    rcases hadvance with ⟨-, -, rfl⟩ | ⟨-, -, rfl⟩
    · exact .inl hactive
    · split
      · exact .inr rfl
      · exact .inl hactive
  have hmode : s.frameMode ≠ .none := by
    cases hr : s.running with
    | idle => exact absurd hr hrun
    | readCode => rw [h.readCode hr]; decide
    | decodeFrame => rw [h.decodeFrame hr]; decide
  have hnotfailed : d ≠ .failed := by rcases hd with rfl | rfl <;> decide
  have hclean : s.status.errKind = .none := by
    by_contra hne
    rw [h.failed.mpr hne] at hactive
    cases hactive
  refine .of_parts (h.image.congr rfl (fun p => by cases p <;> rfl) rfl rfl)
    (h.frame.of_streamFrame hrun hstream fun _ => .inl hactive) ?tracker
    ⟨hmove.bits.2, hmove.vpos, hmove.prevDc, hmove.noPrevDc⟩ ?status ⟨h.blk, h.nzCount, h.lastNz, h.rpos⟩ ?operation
  case tracker =>
    rcases hadvance with ⟨-, rfl, rfl⟩ | ⟨-, rfl, rfl⟩
    · exact h.tracker.advanceCode hactive rfl rfl rfl rfl
    · exact h.tracker.advanceEob hactive hlt rfl rfl rfl
  case status =>
    exact ⟨iff_of_false hnotfailed (not_not_intro hclean), fun hf => absurd hf hnotfailed, h.degenCount,
      fun hr => absurd hr hrun⟩
  case operation =>
    refine ⟨h.noMerge, nofun, h.pendingFit, fun hr => absurd hr hrun, h.readCode, h.decodeFrame, nofun, fun _ => hd,
      fun _ => h.pixels hactive, fun _ hm => absurd hm hmode, nofun, fun e he => ?_⟩
    cases he
    refine h.emittedInv hrun hwait hcode rfl hmove.bits.1 ?_
    rcases hadvance with ⟨hterm, htrk, hd⟩ | ⟨hterm, htrk, -⟩
    · exact .inl ⟨hterm, htrk, hd⟩
    · exact .inr ⟨hterm, htrk⟩

/-- The new predictor is in range, and the other ones stand (42_entropy_dc.md R302, R304). -/
theorem PrevDc.get_set (p : PrevDc) (x : Int) (r r' : Role) : (p.set x r).get r' = x ∨ (p.set x r).get r' = p.get r' := by
  cases r <;> cases r' <;> simp [PrevDc.set, PrevDc.get]

/-- A codeword keeps the invariant. -/
theorem CodewordStep.inv {s t : State} {len : Nat} (hs : CodewordStep s len t) (h : s.Inv) (hrun : s.running ≠ .idle)
    (hwait : s.emitted = none) : t.Inv := by
  cases hs with
  | fails e b v hb hv => exact h.fail hrun hwait e hb hv
  | dc c p hfirst hp hbits =>
    refine h.emit hrun hwait ⟨⟨Nat.le_add_right .., hbits⟩, Nat.zero_le _, fun r => ?_, fun hno => ?_⟩
      ⟨fun _ => rfl, fun hlater => absurd (hfirst.symm.trans hlater) (by decide)⟩
    · rcases hp with rfl | ⟨-, x, hlo, hhi, rfl⟩
      · exact h.prevDc r
      · rcases PrevDc.get_set s.prevDc x s.trk.role r with hx | hx
        · rw [hx]; exact ⟨hlo, hhi⟩
        · rw [hx]; exact h.prevDc r
    · rcases hp with rfl | ⟨hdiff, -⟩
      · exact h.noPrevDc hno
      · exact absurd hdiff hno
  | run c hlater hpos hbits =>
    exact h.emit hrun hwait ⟨⟨Nat.le_add_right .., hbits⟩, hpos, h.prevDc, h.noPrevDc⟩
      ⟨fun hfirst => absurd (hfirst.symm.trans hlater) (by decide), fun _ _ => rfl⟩
  | eob hlater hbits =>
    exact h.emit hrun hwait (c := eobCode) ⟨⟨Nat.le_add_right .., hbits⟩, h.vpos, h.prevDc, h.noPrevDc⟩
      ⟨fun hfirst => absurd (hfirst.symm.trans hlater) (by decide), fun _ heob => absurd heob (by decide)⟩

end Sys2Proof.Machine

/-! PROOFS. The consumer of a code keeps the invariant (44_filter.md R503; 45_reconstruction.md R556 to R562;
47_host_interface.md R653, R654). -/

namespace Sys2Proof.Machine

/-! ## The filter, in a state with the invariant -/

/-- The code has been taken from where it waited, `k` degenerate codes are counted, and the filter holds back `pend`. -/
def State.consumed (s : State) (k : Nat) (pend : Option Nat) : State :=
  { s with
    emitted := none
    pendRun := pend
    degenCount := s.degenCount + k
    status := { s.status with degenCount := s.degenCount + k } }

/-- Two states that count alike and hold back the same run. -/
theorem State.Inv.consumed_zero {s : State} (h : s.Inv) (pend : Option Nat) :
    s.consumed 0 pend = { s with emitted := none, pendRun := pend } := by
  have hstatus : ({ s.status with degenCount := s.degenCount } : Status) = s.status := by rw [← h.degenCount]
  rw [State.consumed]
  simp only [Nat.add_zero, hstatus]

/-- The filter absorbs a code: a later, degenerate one, with merging on (44_filter.md R503). -/
def State.Absorbs (s : State) (e : Emitted) : Prop :=
  e.first = false ∧ e.code.isEob = false ∧ e.code.bottom10 = 0#10 ∧ s.cfg.filterMerge = true

/-- What an absorbed code leaves (44_filter.md R503). -/
theorem State.Absorbs.filterStep {s : State} {e : Emitted} (h : s.Absorbs e) :
    filterStep e.first e.code s.taken = (none, s.consumed 1 (some (s.pending + e.code.top6.toNat + 1))) := by
  obtain ⟨hlater, heob, hzero, hmerge⟩ := h
  have hafter : pendAfter s.pendRun e.code.top6.toNat = s.pending + e.code.top6.toNat + 1 := by
    cases hp : s.pendRun <;> simp [pendAfter, State.pending, hp]
  rw [hlater, filterStep_degenerate heob hzero, if_pos (by exact hmerge), ← hafter]
  rfl

/-- The run a code that the filter passes has: with the run held back, but at a boundary of its block
(44_filter.md R503). -/
def State.passedRun (s : State) (e : Emitted) : Nat :=
  if e.first || e.code.isEob then e.code.top6.toNat else s.pending + e.code.top6.toNat

/-- What a code that the filter passes leaves (44_filter.md R503). -/
theorem State.Inv.filterStep_passes {s : State} (h : s.Inv) {e : Emitted} (hpass : ¬ s.Absorbs e) :
    ∃ k, filterStep e.first e.code s.taken = (some ⟨s.passedRun e, e.code.bottom10⟩, s.consumed k none) := by
  have hnone : s.cfg.filterMerge = false → s.pending = 0 := fun hm => by rw [State.pending, h.noMerge hm]; rfl
  have hkept : s.cfg.filterMerge = false → ({ s with emitted := none, pendRun := none } : State) = s.taken :=
    fun hm => by rw [State.taken, ← h.noMerge hm]
  by_cases hboundary : (e.first || e.code.isEob) = true
  · refine ⟨0, ?_⟩
    rw [filterStep_boundary hboundary, State.passedRun, if_pos hboundary, h.consumed_zero]
    rfl
  rw [State.passedRun, if_neg hboundary]
  obtain ⟨hlater, heob⟩ := Bool.or_eq_false_iff.mp (Bool.eq_false_iff.mpr hboundary)
  rw [hlater]
  by_cases hzero : e.code.bottom10 = 0#10
  · have hmerge : s.cfg.filterMerge = false := Bool.eq_false_iff.mpr fun hm => hpass ⟨hlater, heob, hzero, hm⟩
    refine ⟨1, ?_⟩
    rw [filterStep_degenerate heob hzero, if_neg (by exact Bool.eq_false_iff.mp hmerge), hnone hmerge, Nat.zero_add,
      State.consumed, ← h.noMerge hmerge]
    rfl
  · refine ⟨0, ?_⟩
    rw [filterStep_later heob hzero, h.consumed_zero]
    cases hmerge : s.cfg.filterMerge with
    | true => rw [if_pos (by exact hmerge)]; rfl
    | false =>
      rw [if_neg (by exact Bool.eq_false_iff.mp hmerge), hnone hmerge, Nat.zero_add, hkept hmerge]
      rfl

/-! ## The reconstruction engine -/

/-- The dequantized values are of the variant's kind (10_state.md R67). -/
theorem sampleKind_dequantDc (v : Variant) (dc : Int) (q : Byte) : sampleKind v (dequantDc v dc q) = true := by
  cases v <;> rfl

theorem sampleKind_dequantAc (v : Variant) (level : Int) (q : Byte) (qscale : Nat) :
    sampleKind v (dequantAc v level q qscale) = true := by
  cases v <;> rfl

theorem sampleKind_zeroSample (v : Variant) : sampleKind v (zeroSample v) = true := by
  cases v <;> rfl

theorem sampleKind_blockSample (s : State) (k : Fin 64) : sampleKind s.cfg.variant (blockSample s k) = true := by
  cases hv : s.cfg.variant <;> simp only [blockSample, hv] <;> split <;> rfl

/-- The registers after a block's first code are in form (45_reconstruction.md R556, R557). -/
theorem EngineInv.reconDc (p : Passed) (s : State) : EngineInv (Machine.reconDc p s) := by
  obtain ⟨q, d⟩ := p
  unfold Machine.reconDc blockStart
  by_cases hd : d = 0#10
  · simp only [hd, ne_eq, not_true_eq_false, if_false]
    refine ⟨fun i => ?_, Nat.zero_le _, fun h => absurd h (Nat.not_succ_le_zero 0), Nat.zero_le _⟩
    simpa using sampleKind_zeroSample s.cfg.variant
  · simp only [ne_eq, hd, not_false_eq_true, if_true]
    refine ⟨fun i => ?_, Nat.le_refl _, fun _ => nofun, Nat.zero_le _⟩
    simp only [Fin.getElem_fin, Vector.getElem_set, Vector.getElem_replicate]
    split
    · exact sampleKind_dequantDc ..
    · exact sampleKind_zeroSample ..

/-- The registers after the store of a later code are in form (45_reconstruction.md R558). -/
theorem EngineInv.reconStore {p : Passed} {s : State} (h : EngineInv s) (hpos : s.rpos + p.top6 + 1 ≤ 63) :
    EngineInv (Machine.reconStore p (reconAdvance p s)) := by
  have hcount := h.nzCount
  by_cases hz : p.bottom10 = 0#10
  · rw [reconStore_zero hz]
    exact ⟨h.blk, by show s.nzCount ≤ s.rpos + p.top6 + 1 + 1; omega, h.lastNz, hpos⟩
  · have hlt : s.rpos + p.top6 + 1 < 64 := by omega
    rw [reconStore_level hz (pos := ⟨_, hlt⟩) (by rfl)]
    refine ⟨fun i => ?_, by show s.nzCount + 1 ≤ s.rpos + p.top6 + 1 + 1; omega, fun _ => nofun, hpos⟩
    simp only [Fin.getElem_fin, Vector.getElem_set]
    split
    · exact sampleKind_dequantAc ..
    · exact h.blk i

/-! ## What a step does with a code that waits -/

/-- The registers of the engine. -/
def State.withEngine (s : State) (b : Vector Sample 64) (n : Nat) (l : Option (Fin 64)) (q : BitVec 6) (r : Nat) :
    State :=
  { s with blk := b, nzCount := n, lastNz := l, blkQscale := q, rpos := r }

/-- What the consumer makes of the code `e` that waits: the filter absorbs it, READ_CODE returns it, the engine takes a
code of a block, or the end of block writes the block. -/
inductive ConsumeStep (s : State) (e : Emitted) : State → Prop
  | absorbed : s.Absorbs e → ConsumeStep s e (s.consumed 1 (some (s.pending + e.code.top6.toNat + 1)))
  | returned (k : Nat) (w : Half) : s.running = .readCode →
      ConsumeStep s e (finish (.code w (isTerminal e.first e.code))
        (if s.dstate = .done then endFrame (s.consumed k none) else s.consumed k none))
  | engine (k : Nat) (b : Vector Sample 64) (n : Nat) (l : Option (Fin 64)) (q : BitVec 6) :
      s.running = .decodeFrame → isTerminal e.first e.code = false →
      EngineInv ((s.consumed k none).withEngine b n l q s.vpos) →
      ConsumeStep s e ((s.consumed k none).withEngine b n l q s.vpos)
  | eob : s.running = .decodeFrame → isTerminal e.first e.code = true →
      ConsumeStep s e (continueDecode (writeBlock e.mbIndex e.role (fun k => blockSample s (Fin.ofNat 64 k))
        (s.consumed 0 none)))

/-- The first code of a block leaves the engine at position 0 (45_reconstruction.md R556, R557). -/
theorem reconDc_withEngine (p : Passed) (s : State) :
    ∃ b n l q, reconDc p s = s.withEngine b n l q 0 := by
  obtain ⟨r, d⟩ := p
  by_cases hd : d = 0#10
  · exact ⟨_, _, _, _, by simp only [reconDc, blockStart, hd, ne_eq, not_true_eq_false, if_false]; rfl⟩
  · exact ⟨_, _, _, _, by simp only [reconDc, blockStart, hd, ne_eq, not_false_eq_true, if_true]; rfl⟩

/-- A later code leaves the engine at its position (45_reconstruction.md R558). -/
theorem reconStore_withEngine (p : Passed) (s : State) :
    ∃ b n l, reconStore p (reconAdvance p s) = s.withEngine b n l s.blkQscale (s.rpos + p.top6 + 1) := by
  by_cases hz : p.bottom10 = 0#10
  · exact ⟨_, _, _, reconStore_zero hz _⟩
  · exact ⟨_, _, _, if_pos hz⟩

/-- A code that waits is run as the packed code it is (40_mdec_code.md R212; 47_host_interface.md R653). -/
theorem step_of_emitted {s : State} {e : Emitted} (hrun : s.running ≠ .idle) (he : s.emitted = some e) :
    step s = consumeCode e.code e s := by
  rw [step_of_fetched hrun (fetchStream_of_emitted he), decodePacked_pack]
  show exec _ s = _
  cases hfirst : e.first with
  | true => exact exec_mdecDc_first he hfirst _ _
  | false =>
    rw [if_neg Bool.false_ne_true]
    cases heob : e.code.isEob with
    | true =>
      rw [if_pos rfl, Code.isEob_iff_eq_eobCode.mp heob]
      exact exec_mdecEob_later he hfirst
    | false =>
      rw [if_neg Bool.false_ne_true]
      exact exec_mdecAc_later he hfirst heob

/-- A code that does not end its block is of an ACTIVE frame (40_mdec_code.md R214). -/
theorem EmittedInv.active {s : State} {e : Emitted} (h : EmittedInv s e) (hcode : isTerminal e.first e.code = false) :
    s.dstate = .active := (h.code hcode).1

/-- The run of a code that the filter passes is one (43_entropy_ac.md R353). -/
theorem State.Inv.passedRun_le {s : State} (h : s.Inv) {e : Emitted} (he : EmittedInv s e) : s.passedRun e ≤ 63 := by
  unfold State.passedRun
  split
  case isTrue => exact Nat.le_of_lt_succ e.code.top6.isLt
  case isFalse hb =>
    obtain ⟨hlater, heob⟩ := Bool.or_eq_false_iff.mp (Bool.eq_false_iff.mpr hb)
    have hrun := he.run hlater heob
    have hvpos := h.vpos
    omega

/-- The engine's step for a code of an ACTIVE frame that does not end its block: its position is the decoder's. -/
theorem State.Inv.reconstruct_code {s : State} (h : s.Inv) {e : Emitted} (he : EmittedInv s e)
    (hrun : s.running = .decodeFrame) (hcode : isTerminal e.first e.code = false) (k : Nat) :
    ∃ b n l q, reconstruct e false ⟨s.passedRun e, e.code.bottom10⟩ (s.consumed k none) =
        .next ((s.consumed k none).withEngine b n l q s.vpos) ∧
      EngineInv ((s.consumed k none).withEngine b n l q s.vpos) := by
  have hactive := he.active hcode
  cases hfirst : e.first with
  | true =>
    obtain ⟨b, n, l, q, heq⟩ := reconDc_withEngine ⟨s.passedRun e, e.code.bottom10⟩ (s.consumed k none)
    have hengine := EngineInv.reconDc ⟨s.passedRun e, e.code.bottom10⟩ (s.consumed k none)
    rw [heq, ← he.dc hfirst] at hengine
    refine ⟨b, n, l, q, ?_, hengine⟩
    rw [reconstruct, if_pos hfirst, heq, continueDecode_of_active (by exact hactive), he.dc hfirst]
  | false =>
    have heob : e.code.isEob = false := by rwa [hfirst, isTerminal_later] at hcode
    have hposition : s.rpos + s.passedRun e + 1 = s.vpos := by
      rw [State.passedRun, hfirst, heob, Bool.or_self, if_neg Bool.false_ne_true, ← Nat.add_assoc]
      exact he.position hrun hfirst heob
    have hvpos := h.vpos
    have hle : (s.consumed k none).rpos + s.passedRun e + 1 ≤ 63 := hposition.trans_le hvpos
    obtain ⟨b, n, l, heq⟩ := reconStore_withEngine ⟨s.passedRun e, e.code.bottom10⟩ (s.consumed k none)
    have hengine : EngineInv (reconStore ⟨s.passedRun e, e.code.bottom10⟩
        (reconAdvance ⟨s.passedRun e, e.code.bottom10⟩ (s.consumed k none))) :=
      EngineInv.reconStore ⟨h.blk, h.nzCount, h.lastNz, h.rpos⟩ hle
    have hpos : (s.consumed k none).rpos + s.passedRun e + 1 = s.vpos := hposition
    rw [heq] at hengine
    simp only [hpos] at hengine heq
    exact ⟨b, n, l, _, by
      rw [reconstruct_later hfirst hle, heq, continueDecode_of_active (by exact hactive)], hengine⟩

/-- Inside an operation a step with a code that waits is the consumer's. -/
theorem State.Inv.consume {s : State} (h : s.Inv) (hrun : s.running ≠ .idle) {e : Emitted} (hw : s.emitted = some e) :
    ∃ t, step s = .next t ∧ ConsumeStep s e t := by
  have he := h.emitted e hw
  rw [step_of_emitted hrun hw]
  by_cases habsorb : s.Absorbs e
  · exact ⟨_, consumeCode_absorbed hrun habsorb.filterStep, .absorbed habsorb⟩
  obtain ⟨k, hfilter⟩ := h.filterStep_passes habsorb
  cases hop : s.running with
  | idle => exact absurd hop hrun
  | readCode =>
    rw [consumeCode_codes hop hfilter, deliver_eq (h.passedRun_le he)]
    exact ⟨_, rfl, .returned k _ hop⟩
  | decodeFrame =>
    cases hterm : isTerminal e.first e.code with
    | false =>
      obtain ⟨b, n, l, q, heq, hengine⟩ := h.reconstruct_code he hop hterm k
      rw [consumeCode_pixels hop hfilter, hterm, heq]
      exact ⟨_, rfl, .engine k b n l q hop hterm hengine⟩
    | true =>
      obtain ⟨hlater, heob⟩ : e.first = false ∧ e.code.isEob = true := by simpa [isTerminal] using hterm
      have hcode : e.code = eobCode := Code.isEob_iff_eq_eobCode.mp heob
      have hpast : s.consumed 0 none = s.passBoundary := h.consumed_zero none
      refine ⟨_, ?_, .eob hop hterm⟩
      rw [hpast, hcode, ← exec_mdecEob_later hw hlater]
      exact exec_mdecEob_pixels h hop hw hlater

/-! ## The invariant -/

/-- A code has been consumed: it is taken, the filter's and the engine's registers are new, and so may the planes be. -/
def State.afterConsumer (s : State) (k : Nat) (pend : Option Nat) (b : Vector Sample 64) (n : Nat)
    (l : Option (Fin 64)) (q : BitVec 6) (r : Nat) (y cb cr : Memory Sample) : State :=
  ((s.consumed k pend).withEngine b n l q r).withPlanes y cb cr

section

variable {s : State} {k n r : Nat} {pend : Option Nat} {b : Vector Sample 64} {l : Option (Fin 64)} {q : BitVec 6}
  {y cb cr : Memory Sample}

/-- A consumer after which the operation reads on keeps the invariant: the frame is ACTIVE, and the run held back and the
engine's position fit the decoder's. -/
theorem State.Inv.readsOn (h : s.Inv) (hrun : s.running ≠ .idle) (hactive : s.dstate = .active)
    (himage : ImageInv (s.afterConsumer k pend b n l q r y cb cr))
    (hengine : EngineInv (s.afterConsumer k pend b n l q r y cb cr))
    (hmerge : s.cfg.filterMerge = false → pend = none) (hfirst : s.trk.firstOfBlock = true → pend = none)
    (hpend : pend.getD 0 ≤ s.vpos)
    (hpos : s.running = .decodeFrame → s.trk.firstOfBlock = false → r + pend.getD 0 = s.vpos) :
    (s.afterConsumer k pend b n l q r y cb cr).Inv := by
  have hmode : s.frameMode ≠ .none := by
    cases hop : s.running with
    | idle => exact absurd hop hrun
    | readCode => rw [h.readCode hop]; decide
    | decodeFrame => rw [h.decodeFrame hop]; decide
  exact .of_parts himage
    ⟨h.size, h.unconfigured, h.qscale, h.header, h.title, h.streamBits⟩
    ⟨h.totalMbs, h.totalBlocks, h.firstOfBlock, h.mbIndex, h.doneRole⟩
    ⟨h.bitPos, h.vpos, h.prevDc, h.noPrevDc⟩
    ⟨h.failed, h.recorded, rfl, fun hidle => absurd hidle hrun⟩ hengine
    ⟨hmerge, fun _ => ⟨hpend, hfirst⟩, hpend.trans h.vpos, fun _ => rfl, h.readCode, h.decodeFrame, fun _ _ => hactive,
      h.consuming, h.pixels, fun _ hm => absurd hm hmode, fun hop _ hlater => hpos hop hlater, nofun⟩

/-- A consumer that ends the operation keeps the invariant: the warning stands, and a frame still ACTIVE is not in pixel
mode. -/
theorem State.Inv.endsOperation (h : s.Inv) (hrun : s.running ≠ .idle) {t : State} {w : Warn} {reply : Option Reply}
    (ht : t = { s.afterConsumer k none b n l q r y cb cr with
      running := .idle, reply := reply, status := { (s.consumed k none).status with warn := w } })
    (himage : ImageInv t) (hengine : EngineInv t) (hcodes : s.dstate = .active → s.frameMode = .codes)
    (hwarn : s.dstate = .done → 0 < s.degenCount + k → w.degenerateCodes = true) : t.Inv := by
  subst ht
  exact .of_parts himage
    ⟨h.size, fun hc => ⟨(h.unconfigured hc).1, rfl⟩, h.qscale, h.header, h.title, h.streamBits⟩
    ⟨h.totalMbs, h.totalBlocks, h.firstOfBlock, h.mbIndex, h.doneRole⟩
    ⟨h.bitPos, h.vpos, h.prevDc, h.noPrevDc⟩
    ⟨h.failed, h.recorded, rfl, fun _ hend hcount => hwarn (hend.resolve_right fun hfailed => by
      have hfailed' : s.dstate = .failed := hfailed
      rcases h.consuming hrun with hd | hd <;> rw [hd] at hfailed' <;> cases hfailed') hcount⟩ hengine
    ⟨fun _ => rfl, fun _ => ⟨Nat.zero_le _, fun _ => rfl⟩, Nat.zero_le _, fun _ => rfl, nofun, nofun,
      fun hr => absurd rfl hr, fun hr => absurd rfl hr,
      fun hd hm => absurd ((hcodes hd).symm.trans hm) (by decide),
      fun hd hm => absurd ((hcodes hd).symm.trans hm) (by decide), nofun, nofun⟩

end

/-- The end of block keeps the planes in form (45_reconstruction.md R562). -/
theorem ImageInv.endOfBlock {s : State} (h : ImageInv s) {i : Nat} (hi : i < s.cfg.mbCount) (r : Role) :
    ImageInv (writeBlock i r (fun k => blockSample s (Fin.ofNat 64 k)) s) := by
  have hplane : ∀ p, PlaneInv (writeBlock i r (fun k => blockSample s (Fin.ofNat 64 k)) s) p :=
    PlaneInv.writeBlock h.plane fun k => .inr ⟨hi, sampleKind_blockSample s _⟩
  obtain ⟨y, cb, cr, heq⟩ := writeBlock_withPlanes i r (fun k => blockSample s (Fin.ofNat 64 k)) s
  rw [heq] at hplane ⊢
  exact ⟨hplane, h.outRgb, h.outYuv⟩

/-- The consumer of a code keeps the invariant. -/
theorem ConsumeStep.inv {s t : State} {e : Emitted} (hs : ConsumeStep s e t) (h : s.Inv) (hrun : s.running ≠ .idle)
    (hw : s.emitted = some e) : t.Inv := by
  have he := h.emitted e hw
  have himage : ImageInv s := h.image
  have hengine : EngineInv s := h.engine
  cases hs with
  | absorbed habsorb =>
    obtain ⟨hlater, heob, -, hmerge⟩ := habsorb
    have hcode : isTerminal e.first e.code = false := by rw [hlater, isTerminal_later, heob]
    obtain ⟨hactive, -, -, hfirst, -⟩ := he.code hcode
    refine h.readsOn (k := 1) (pend := some _) (b := s.blk) (n := s.nzCount) (l := s.lastNz) (q := s.blkQscale)
      (r := s.rpos) (y := s.planeY) (cb := s.planeCb) (cr := s.planeCr) hrun hactive
      (himage.congr rfl (fun p => by cases p <;> rfl) rfl rfl)
      ⟨hengine.blk, hengine.nzCount, hengine.lastNz, hengine.rpos⟩ (fun hm => absurd (hm.symm.trans hmerge) (by decide))
      (fun hf => absurd (hf.symm.trans hfirst) (by decide)) (he.run hlater heob) fun hop _ => ?_
    have hposition := he.position hop hlater heob
    show s.rpos + (s.pending + e.code.top6.toNat + 1) = s.vpos
    omega
  | returned k w hop =>
    have hcodes := h.readCode hop
    by_cases hdone : s.dstate = .done
    · rw [if_pos hdone, endFrame_eq]
      exact h.endsOperation (t := finish _ _) hrun rfl (himage.congr rfl (fun p => by cases p <;> rfl) rfl rfl)
        ⟨hengine.blk, hengine.nzCount, hengine.lastNz, hengine.rpos⟩ (fun _ => hcodes)
        fun _ hcount => Bool.or_eq_true_iff.mpr (.inr (decide_eq_true hcount))
    · rw [if_neg hdone]
      exact h.endsOperation (t := finish _ _) hrun rfl (himage.congr rfl (fun p => by cases p <;> rfl) rfl rfl)
        ⟨hengine.blk, hengine.nzCount, hengine.lastNz, hengine.rpos⟩ (fun _ => hcodes) fun hd => absurd hd hdone
  | engine k b n l q hop hcode hnew =>
    exact h.readsOn (k := k) (pend := none) (y := s.planeY) (cb := s.planeCb) (cr := s.planeCr) hrun (he.active hcode)
      (himage.congr rfl (fun p => by cases p <;> rfl) rfl rfl) ⟨hnew.blk, hnew.nzCount, hnew.lastNz, hnew.rpos⟩
      (fun _ => rfl) (fun _ => rfl) (Nat.zero_le _) fun _ _ => rfl
  | eob hop hterm =>
    obtain ⟨-, -, hfirst⟩ := he.terminal hterm
    have hconsumed : ImageInv (s.consumed 0 none) := himage.congr rfl (fun p => by cases p <;> rfl) rfl rfl
    have hblock := hconsumed.endOfBlock he.inFrame e.role
    have hsample : (fun k => blockSample (s.consumed 0 none) (Fin.ofNat 64 k)) =
        fun k => blockSample s (Fin.ofNat 64 k) := rfl
    rw [hsample] at hblock
    obtain ⟨y, cb, cr, hwrite⟩ := writeBlock_withPlanes e.mbIndex e.role (fun k => blockSample s (Fin.ofNat 64 k))
      (s.consumed 0 none)
    rw [hwrite] at hblock ⊢
    have hnew : EngineInv ((s.consumed 0 none).withPlanes y cb cr) :=
      ⟨hengine.blk, hengine.nzCount, hengine.lastNz, hengine.rpos⟩
    by_cases hactive : s.dstate = .active
    · rw [continueDecode_of_active (by exact hactive)]
      exact h.readsOn (k := 0) (pend := none) hrun hactive hblock hnew (fun _ => rfl) (fun _ => rfl) (Nat.zero_le _)
        fun _ hlater => absurd (hfirst.symm.trans hlater) (by decide)
    · rw [continueDecode, if_neg (by exact hactive), endFrame_eq]
      exact h.endsOperation (t := finish _ _) hrun rfl (hblock.congr rfl (fun p => by cases p <;> rfl) rfl rfl)
        ⟨hnew.blk, hnew.nzCount, hnew.lastNz, hnew.rpos⟩ (fun hd => absurd hd hactive)
        fun _ hcount => Bool.or_eq_true_iff.mpr (.inr (decide_eq_true hcount))

end Sys2Proof.Machine

/-! PROOFS. From a state with the invariant an operation never stops (43_entropy_ac.md R350, R351; 60_exceptions.md R720;
70_reset_and_hazards.md R753). -/

namespace Sys2Proof.Machine

/-! ## The instructions of a context -/

theorem contextOf_build_ac : ∀ r ∈ acRows, ∀ b, contextOf (r.build b) = .ac := by
  repeat first | exact List.forall_mem_nil _ | refine List.forall_mem_cons.mpr ⟨fun _ => rfl, ?_⟩

theorem contextOf_build_dcLuma : ∀ r ∈ dcLumaRows, ∀ b, contextOf (r.build b) = .dcLuma := by
  repeat first | exact List.forall_mem_nil _ | refine List.forall_mem_cons.mpr ⟨fun _ => rfl, ?_⟩

theorem contextOf_build_dcChroma : ∀ r ∈ dcChromaRows, ∀ b, contextOf (r.build b) = .dcChroma := by
  repeat first | exact List.forall_mem_nil _ | refine List.forall_mem_cons.mpr ⟨fun _ => rfl, ?_⟩

/-- A row of a table builds instructions of its context; the title contexts share the mainline's end of block. -/
theorem contextOf_build {c : Context} {r : Row} (hr : r ∈ rowsOf c) (b : Bits) :
    contextOf (r.build b) = c ∨ c = .acTitle ∧ r.build b = .acEob := by
  cases c with
  | dcShared => cases List.mem_singleton.mp hr; exact .inl rfl
  | dcLuma => exact .inl (contextOf_build_dcLuma r hr b)
  | dcChroma => exact .inl (contextOf_build_dcChroma r hr b)
  | ac => exact .inl (contextOf_build_ac r hr b)
  | acTitle => cases List.mem_singleton.mp hr; exact .inr ⟨rfl, rfl⟩
  | codeFirst | codeLater | command => exact nomatch hr

/-- No instruction is the title formats' own. -/
theorem contextOf_ne_acTitle (i : Instr) : contextOf i ≠ .acTitle := by
  cases i <;> exact nofun

/-- An instruction read from the bitstream has a codeword (43_entropy_ac.md R350). -/
theorem exists_codewordShape {i : Instr}
    (hi : contextOf i = .dcShared ∨ contextOf i = .dcLuma ∨ contextOf i = .dcChroma ∨ contextOf i = .ac) :
    ∃ len, 1 ≤ len ∧ CodewordShape i len := by
  cases i with
  | mdecEob | mdecDc | mdecAc | configure | setQuant | loadFrame | readCode | decodeFrame | readRgb | readYcbcr420
  | queryStatus => exact absurd hi (by simp [contextOf])
  | dcShared d => exact ⟨_, by decide, .dcShared d rfl rfl⟩
  | dcDiffYS0 | dcDiffYS1 v | dcDiffYS2 v | dcDiffYS3 v | dcDiffYS4 v | dcDiffYS5 v | dcDiffYS6 v | dcDiffYS7 v
  | dcDiffYS8 v | dcDiffCS0 | dcDiffCS1 v | dcDiffCS2 v | dcDiffCS3 v | dcDiffCS4 v | dcDiffCS5 v | dcDiffCS6 v
  | dcDiffCS7 v | dcDiffCS8 v => exact ⟨_, by simp, .dcDiff _ rfl rfl rfl⟩
  | acEob => exact ⟨_, by decide, .acEob rfl rfl⟩
  | _ => exact ⟨_, by simp, .ac _ rfl rfl rfl⟩

/-! ## What is fetched where a codeword is read -/

/-- What is fetched fits the context: an instruction of the context, a supplied codeword of at least one bit, or an error
of the decoder. -/
inductive Fetched.Fits (c : Context) : Fetched → Prop
  | instr (i : Instr) : contextOf i = c ∨ c = .acTitle ∧ i = .acEob → Fits c (.instr i)
  | literalDc (len : Nat) (delta : Int) : c = .dcLuma ∨ c = .dcChroma → 1 ≤ len → Fits c (.literalDc len delta)
  | literalDcField (len : Nat) (d : BitVec 10) : c = .dcShared → 1 ≤ len → Fits c (.literalDcField len d)
  | literalAc (len : Nat) (run : BitVec 6) (level : BitVec 10) (escape : Bool) : c = .ac ∨ c = .acTitle → 1 ≤ len →
      Fits c (.literalAc len run level escape)
  | literalZeroEscape (len : Nat) (run : BitVec 6) : c = .acTitle → 1 ≤ len → Fits c (.literalZeroEscape len run)
  | endOfStream : Fits c .endOfStream
  | corrupt (cause : Cause) (value : CtxValue) : cause ≠ .runOutOfBounds → Fits c (.corrupt cause value)

namespace Fetched.Fits

theorem of_default {cause : Cause} (hcause : cause ≠ .runOutOfBounds) (c : Context) (w : Bits) :
    Fits c (fetchDefault cause c w) := by
  unfold fetchDefault
  split
  case h_1 i _ hfound =>
    obtain ⟨r, hr, operand, -, -, -, rfl, -⟩ := classifyRows_found hfound
    exact .instr _ (contextOf_build hr operand)
  case h_2 => exact .endOfStream
  case h_3 => exact .corrupt _ _ hcause

/-- A takeable code has a bit. -/
theorem one_le_of_takeable {code : Bits} (h : takeable code = true) : 1 ≤ code.length := by
  cases code with
  | nil => exact absurd h (by decide)
  | cons => exact Nat.le_add_left ..

theorem of_dcLiteral {c : Context} (hc : c = .dcLuma ∨ c = .dcChroma) (table : List DcEntry) (w : Bits) :
    Fits c (fetchDcLiteral table w) := by
  unfold fetchDcLiteral
  split
  case h_1 e he =>
    have htake := List.find?_some he
    rw [Bool.and_eq_true] at htake
    exact .literalDc _ _ hc (one_le_of_takeable htake.1)
  case h_2 =>
    split
    · exact .endOfStream
    · exact .corrupt _ _ (by decide)

theorem of_dcTitle {c : Context} {α : Type} {found : Nat → α → Fetched} (r : TitleDcResult α) (w : Bits)
    (hfound : ∀ n v, 1 ≤ n → Fits c (found n v)) : Fits c (fetchDcTitle found r w) := by
  unfold fetchDcTitle
  split
  · exact hfound _ _ (Nat.le_add_left ..)
  · exact .endOfStream
  · exact .corrupt _ _ (by decide)

theorem of_dcDiff {c : Context} (hc : c = .dcLuma ∨ c = .dcChroma) (s : State) (table : Option (List DcEntry))
    (w : Bits) : Fits c (fetchDcDiff s c table w) := by
  unfold fetchDcDiff
  split
  · exact of_dcTitle _ _ fun n v hn => .literalDc n v hc hn
  · exact of_dcLiteral hc _ _
  · exact of_default (by decide) c w

/-- The codeword a supplied table gives has a bit. -/
theorem one_le_vlcLiteral {table : List VlcCodeword} {w : Bits} {c : VlcCodeword} (h : vlcLiteral table w = some c) :
    1 ≤ c.code.length := by
  induction table generalizing c with
  | nil => cases h
  | cons d table ih =>
    rw [vlcLiteral] at h
    split at h
    case h_1 => exact ih h
    case h_2 htake _ =>
      cases h
      rw [Bool.and_eq_true] at htake
      exact one_le_of_takeable htake.1
    case h_3 best htake hbest =>
      rw [Bool.and_eq_true] at htake
      split at h
      · cases h
        exact ih hbest
      · cases h
        exact one_le_of_takeable htake.1

theorem of_vlcLiteral {c : Context} (hc : c = .ac ∨ c = .acTitle) (table : List VlcCodeword) (w : Bits) :
    Fits c (fetchVlcLiteral table w) := by
  unfold fetchVlcLiteral
  split
  case h_1 d hd => exact .literalAc _ _ _ _ hc (one_le_vlcLiteral hd)
  case h_2 =>
    split
    · exact .endOfStream
    · exact .corrupt _ _ (by decide)

theorem of_acSupplied (table : List VlcCodeword) (w : Bits) : Fits .ac (fetchAcSupplied table w) := by
  unfold fetchAcSupplied
  split
  case h_1 i _ hfound =>
    obtain ⟨r, hr, operand, -, -, -, rfl, -⟩ := classifyRows_found hfound
    refine .instr _ (.inl (contextOf_build_ac r ?_ operand))
    simp only [acRows, List.mem_append]
    simp [hr]
  case h_2 =>
    split
    case h_1 d _ hd => exact .literalAc _ _ _ _ (.inl rfl) (one_le_vlcLiteral hd)
    case h_2 => exact .endOfStream
  case h_3 => exact of_vlcLiteral (.inl rfl) _ _

theorem of_titleEscape (f : TitleFormat) (run : BitVec 6) (level w : Bits) :
    Fits .acTitle (fetchTitleEscape f run level w) := by
  unfold fetchTitleEscape
  split
  · exact .literalAc _ _ _ _ (.inr rfl) (by omega)
  · exact .literalZeroEscape _ _ rfl (by omega)
  · exact .endOfStream
  · exact .corrupt _ _ (by decide)

theorem of_acTitle (f : TitleFormat) (w : Bits) : Fits .acTitle (fetchAcTitle f w) := by
  have hescape (rest v : Bits) : Fits .acTitle (match splitExact 6 rest with
      | none => .endOfStream
      | some (run, level) => fetchTitleEscape f (BitVec.ofNat 6 (natOfBits run)) level v) := by
    split
    · exact .endOfStream
    · exact of_titleEscape ..
  have htable (v : Bits) : Fits .acTitle (match fetchVlcLiteral (titleCodewords f.vlc) v with
      | .corrupt cause value =>
        if agrees escapePrefix v || agrees [b1, b0] v then .endOfStream else .corrupt cause value
      | found => found) := by
    have hvlc := of_vlcLiteral (.inr rfl) (titleCodewords f.vlc) v
    split
    case h_1 cause value heq =>
      rw [heq] at hvlc
      split
      · exact .endOfStream
      · exact hvlc
    case h_2 => exact hvlc
  unfold fetchAcTitle
  dsimp only
  split
  case h_1 i _ hfound =>
    obtain ⟨r, hr, operand, -, -, -, rfl, -⟩ := classifyRows_found hfound
    exact .instr _ (contextOf_build hr operand)
  all_goals
    split
    · exact hescape _ _
    · exact htable _

end Fetched.Fits

/-! ## What is fetched runs -/

section

variable {s : State} {c : Context} {q : BitVec 6}

/-- An AC codeword runs where one is read. -/
theorem acCodeword_runs {allowed : List Context} (hctx : context s = .ok c) (hc : c ∈ allowed) (len : Nat)
    (run : BitVec 6) (level : BitVec 10) (escape : Bool) : ∃ t, acCodeword allowed len run level escape s = .next t := by
  rw [acCodeword_eq hctx hc]
  split_ifs <;> exact ⟨_, rfl⟩

/-- A title's ZERO_ESCAPE runs where one is read. -/
theorem zeroEscapeCodeword_runs (hctx : context s = .ok .acTitle) (len : Nat) (run : BitVec 6) :
    ∃ t, zeroEscapeCodeword len run s = .next t := by
  rw [zeroEscapeCodeword_eq hctx]
  split_ifs <;> exact ⟨_, rfl⟩

/-- The end of block runs where an AC codeword is read. -/
theorem eobCodeword_runs (hctx : context s = .ok c) (hc : c = .ac ∨ c = .acTitle) : ∃ t, eobCodeword s = .next t := by
  rw [eobCodeword_eq hctx hc]
  split_ifs <;> exact ⟨_, rfl⟩

/-- A differential DC codeword runs where one is read. -/
theorem dcDiffCodeword_runs {allowed : List Context} (hctx : context s = .ok c) (hc : c ∈ allowed)
    (hq : blockQscale s = some q) (len : Nat) (delta : Int) : ∃ t, dcDiffCodeword allowed len delta s = .next t := by
  rw [dcDiffCodeword_eq hctx hc hq]
  split_ifs <;> exact ⟨_, rfl⟩

/-- A DC codeword that gives the DC itself runs where one is read. -/
theorem dcFieldCodeword_runs (hctx : context s = .ok .dcShared) (hq : blockQscale s = some q) (len : Nat)
    (d : BitVec 10) : ∃ t, dcFieldCodeword len d s = .next t := by
  rw [dcFieldCodeword_eq hctx hq]
  split_ifs <;> exact ⟨_, rfl⟩

/-- A codeword instruction of the context that is read runs. -/
theorem exec_codeword_runs {i : Instr} {len : Nat} (hshape : CodewordShape i len) (hctx : context s = .ok (contextOf i))
    (hq : blockQscale s = some q) : ∃ t, exec i s = .next t ∧ CodewordStep s len t := by
  cases hshape with
  | dcShared d hi hlen =>
    subst hi hlen
    obtain ⟨t, ht⟩ := dcFieldCodeword_runs hctx hq 10 d
    exact ⟨t, ht, dcFieldCodeword_step ht⟩
  | dcDiff w hw hc hlen =>
    subst hlen
    rw [hc] at hctx
    obtain ⟨t, ht⟩ := dcDiffCodeword_runs hctx (List.mem_singleton_self _) hq w.bits w.delta
    exact ⟨t, (exec_dcDiff hw s).trans ht, dcDiffCodeword_step (by simpa using dcWord_context hw) ht⟩
  | acEob hi hlen =>
    subst hi hlen
    obtain ⟨t, ht⟩ := eobCodeword_runs hctx (.inl rfl)
    exact ⟨t, ht, eobCodeword_step ht⟩
  | ac w hw hc hlen =>
    subst hlen
    rw [hc] at hctx
    obtain ⟨t, ht⟩ := acCodeword_runs hctx (List.mem_singleton_self _) w.bits w.run w.level w.escape
    exact ⟨t, (exec_ac hw s).trans ht, acCodeword_step (by simp) ht⟩

/-- What is fetched where a codeword is read does what a codeword can do, of at least one bit. -/
theorem Fetched.Fits.runs {f : Fetched} (h : Fits c f) (hctx : context s = .ok c) (hq : blockQscale s = some q) :
    ∃ t len, 1 ≤ len ∧ runFetched exec f s = .next t ∧ CodewordStep s len t := by
  cases h with
  | instr i hi =>
    rcases hi with rfl | ⟨rfl, rfl⟩
    · have hcodeword : contextOf i = .dcShared ∨ contextOf i = .dcLuma ∨ contextOf i = .dcChroma ∨ contextOf i = .ac := by
        rcases context_cases hctx with ⟨-, -, hc⟩ | ⟨-, -, hc⟩ | ⟨-, -, hc⟩ | ⟨-, -, hc⟩
        · exact .inl hc
        · split at hc
          · exact .inr (.inl hc)
          · exact .inr (.inr (.inl hc))
        · exact .inr (.inr (.inr hc))
        · exact absurd hc (contextOf_ne_acTitle i)
      obtain ⟨len, hlen, hshape⟩ := exists_codewordShape hcodeword
      obtain ⟨t, ht, hstep⟩ := exec_codeword_runs hshape hctx hq
      exact ⟨t, len, hlen, ht, hstep⟩
    · obtain ⟨t, ht⟩ := eobCodeword_runs hctx (.inr rfl)
      exact ⟨t, 2, by decide, ht, eobCodeword_step ht⟩
  | literalDc len delta hc hlen =>
    obtain ⟨t, ht⟩ := dcDiffCodeword_runs (allowed := [.dcLuma, .dcChroma]) hctx (by simpa using hc) hq len delta
    exact ⟨t, len, hlen, ht, dcDiffCodeword_step (by simp) ht⟩
  | literalDcField len d hc hlen =>
    subst hc
    obtain ⟨t, ht⟩ := dcFieldCodeword_runs hctx hq len d
    exact ⟨t, len, hlen, ht, dcFieldCodeword_step ht⟩
  | literalAc len run level escape hc hlen =>
    obtain ⟨t, ht⟩ := acCodeword_runs (allowed := [.ac, .acTitle]) hctx (by simpa using hc) len run level escape
    exact ⟨t, len, hlen, ht, acCodeword_step (by simp) ht⟩
  | literalZeroEscape len run hc hlen =>
    subst hc
    obtain ⟨t, ht⟩ := zeroEscapeCodeword_runs hctx len run
    exact ⟨t, len, hlen, ht, zeroEscapeCodeword_step ht⟩
  | endOfStream => exact ⟨_, 1, le_rfl, rfl, .endOfStream s 1⟩
  | corrupt cause value hcause =>
    exact ⟨_, 1, le_rfl, rfl, .corruption (b := s.bitPos) (v := s.vpos) value _ (.inl rfl) (.inl rfl) hcause⟩

end

/-! ## From a state with the invariant -/

/-- Where an operation reads, the frame's header holds what `context` asks for (70_reset_and_hazards.md R753). -/
theorem State.Inv.context_ok {s : State} (h : s.Inv) (hrun : s.running ≠ .idle) (hwait : s.emitted = none) :
    ∃ c, context s = .ok c := by
  have hactive := h.reading hrun hwait
  obtain ⟨hfmt, -, -, hdc, hac, hbody⟩ := h.header (.inl hactive)
  rw [context, if_neg (by simp [hrun, hwait, hactive]), if_neg (by simp [hfmt, hbody])]
  split
  · split
    · exact absurd ‹_› hdc
    · exact ⟨_, rfl⟩
    · exact ⟨_, rfl⟩
  · split
    · exact absurd ‹_› hac
    · exact ⟨_, rfl⟩
    · exact ⟨_, rfl⟩

/-- The upcoming bits are classified, whatever the context that is read (43_entropy_ac.md R351). -/
theorem State.Inv.fetchCodeword_ok {s : State} (h : s.Inv) {c : Context} (hctx : context s = .ok c) (w : Bits) :
    ∃ f, fetchCodeword s c w = .ok f ∧ f.Fits c := by
  rcases context_cases hctx with ⟨-, -, rfl⟩ | ⟨-, -, hc⟩ | ⟨-, -, rfl⟩ | ⟨-, hac, rfl⟩
  · simp only [fetchCodeword]
    split
    · exact ⟨_, rfl, .of_default (by decide) _ _⟩
    · exact ⟨_, rfl, .of_dcTitle _ _ fun n v hn => .literalDcField n v rfl hn⟩
  · split at hc <;> subst hc
    · exact ⟨_, rfl, .of_dcDiff (.inl rfl) _ _ _⟩
    · exact ⟨_, rfl, .of_dcDiff (.inr rfl) _ _ _⟩
  · simp only [fetchCodeword]
    split
    · exact ⟨_, rfl, .of_default (by decide) _ _⟩
    · exact ⟨_, rfl, .of_acSupplied _ _⟩
  · obtain ⟨t, f, hfmt, hf⟩ := h.title hac
    simp only [fetchCodeword, hfmt, hf]
    exact ⟨_, rfl, .of_acTitle _ _⟩

/-- Where an operation reads, a step does what a codeword of at least one bit can do. -/
theorem State.Inv.decode {s : State} (h : s.Inv) (hrun : s.running ≠ .idle) (hwait : s.emitted = none) :
    ∃ t len, 1 ≤ len ∧ step s = .next t ∧ CodewordStep s len t := by
  obtain ⟨c, hctx⟩ := h.context_ok hrun hwait
  obtain ⟨-, hluma, hchroma, -, -, hbody⟩ := h.header (.inl (h.reading hrun hwait))
  obtain ⟨body, hbody⟩ := Option.ne_none_iff_exists'.mp hbody
  obtain ⟨f, hfetch, hfits⟩ := h.fetchCodeword_ok hctx (peek s body (windowOf c))
  have hqscale : blockQscale s ≠ none := by
    unfold blockQscale
    split
    · exact hluma
    · exact hchroma
  obtain ⟨q, hq⟩ := Option.ne_none_iff_exists'.mp hqscale
  rw [step_of_fetched hrun ((fetchStream_of_context hctx hbody).trans hfetch)]
  exact hfits.runs hctx hq

end Sys2Proof.Machine

/-! PROOFS. The loop of an operation (47_host_interface.md R653, R654; 70_reset_and_hazards.md R764, R770). -/

namespace Sys2Proof.Machine

/-! ## What a step inside an operation does -/

/-- How an operation ends: READ_CODE with a code, DECODE_FRAME with OK and the frame DONE, both with the frame's error
(47_host_interface.md R653, R654). -/
def Ended (op : Running) (t : State) : Prop :=
  (t.dstate = .failed ∧ t.reply = recordedReply t) ∨
  match op with
  | .readCode => ∃ w flag, t.reply = some (.code w flag)
  | .decodeFrame => t.dstate = .done ∧ t.reply = some .ok
  | .idle => False

/-- What is left of an operation's micro-steps at most: two for a bit, and one for a code that waits. -/
def State.microstepsLeft (s : State) : Nat := 2 * (s.streamBits - s.bitPos) + (if s.emitted = none then 0 else 1)

/-- A step inside an operation goes on in it with fewer steps left, or ends it (47_host_interface.md R653, R654). -/
def GoesOnOrEnds (s t : State) : Prop :=
  t.running = s.running ∧ t.microstepsLeft < s.microstepsLeft ∨ t.running = .idle ∧ Ended s.running t

/-- An error of the decoder ends the operation. -/
theorem goesOnOrEnds_of_frameFails {r s t : State} {cause : Option Cause} {ctx : Ctx} (h : FrameFails s t cause ctx) :
    GoesOnOrEnds r t := by
  have hrecorded := (recordedReply_frameFails h).1.symm
  obtain ⟨y, cb, cr, rfl⟩ := h.exists_planes
  exact .inr ⟨rfl, .inl ⟨rfl, hrecorded⟩⟩

/-- Emitting a code takes a bit. -/
theorem goesOnOrEnds_emit {s u : State} {len : Nat} (hwait : s.emitted = none) (c : Code) (hlen : 1 ≤ len)
    (hbits : s.bitPos + len ≤ s.streamBits)
    (hu : u.running = s.running ∧ u.streamBits = s.streamBits ∧ u.bitPos = s.bitPos + len) :
    GoesOnOrEnds s (emit s.bitPos c u) := by
  obtain ⟨hrun, hstream, hpos⟩ := hu
  refine .inl ⟨hrun, ?_⟩
  simp only [State.microstepsLeft, emit, hwait, hstream, hpos, reduceCtorEq, if_true, if_false]
  omega

theorem CodewordStep.goesOnOrEnds {s t : State} {len : Nat} (hs : CodewordStep s len t) (hlen : 1 ≤ len)
    (hwait : s.emitted = none) : GoesOnOrEnds s t := by
  cases hs with
  | fails e b v => exact goesOnOrEnds_of_frameFails (fail_frameFails e _)
  | dc c p _ _ hbits => exact goesOnOrEnds_emit hwait c hlen hbits ⟨rfl, rfl, rfl⟩
  | run c _ _ hbits => exact goesOnOrEnds_emit hwait c hlen hbits ⟨rfl, rfl, rfl⟩
  | eob _ hbits => exact goesOnOrEnds_emit hwait _ hlen hbits ⟨rfl, rfl, rfl⟩

/-- A code that has been taken leaves a step fewer. -/
theorem goesOnOrEnds_taken {s t : State} {e : Emitted} (hw : s.emitted = some e) (hrun : t.running = s.running)
    (hstream : t.streamBits = s.streamBits) (hpos : t.bitPos = s.bitPos) (hwait : t.emitted = none) :
    GoesOnOrEnds s t := by
  refine .inl ⟨hrun, ?_⟩
  simp only [State.microstepsLeft, hwait, hw, hstream, hpos, reduceCtorEq, if_true, if_false]
  omega

theorem ConsumeStep.goesOnOrEnds {s t : State} {e : Emitted} (hs : ConsumeStep s e t) (h : s.Inv)
    (hrun : s.running ≠ .idle) (hw : s.emitted = some e) : GoesOnOrEnds s t := by
  cases hs with
  | absorbed => exact goesOnOrEnds_taken hw rfl rfl rfl rfl
  | engine k b n l q => exact goesOnOrEnds_taken hw rfl rfl rfl rfl
  | returned k w hop =>
    refine .inr ⟨rfl, .inr ?_⟩
    rw [hop]
    exact ⟨w, _, rfl⟩
  | eob hop hterm =>
    obtain ⟨y, cb, cr, hwrite⟩ := writeBlock_withPlanes e.mbIndex e.role (fun k => blockSample s (Fin.ofNat 64 k))
      (s.consumed 0 none)
    rw [hwrite]
    by_cases hactive : s.dstate = .active
    · rw [continueDecode_of_active (by exact hactive)]
      exact goesOnOrEnds_taken hw rfl rfl rfl rfl
    · have hdone : s.dstate = .done := (h.consuming hrun).resolve_left hactive
      rw [continueDecode, if_neg (by exact hactive), endFrame_eq]
      refine .inr ⟨rfl, .inr ?_⟩
      rw [hop]
      exact ⟨hdone, rfl⟩

/-- Inside an operation a step from a state with the invariant gives one, and goes on or ends the operation. -/
theorem State.Inv.microstep {s : State} (h : s.Inv) (hrun : s.running ≠ .idle) :
    ∃ t, step s = .next t ∧ t.Inv ∧ GoesOnOrEnds s t := by
  cases hw : s.emitted with
  | none =>
    obtain ⟨t, len, hlen, ht, hs⟩ := h.decode hrun hw
    exact ⟨t, ht, hs.inv h hrun hw, hs.goesOnOrEnds hlen hw⟩
  | some e =>
    obtain ⟨t, ht, hs⟩ := h.consume hrun hw
    exact ⟨t, ht, hs.inv h hrun hw, hs.goesOnOrEnds h hrun hw⟩

/-! ## Runs of an operation -/

/-- `n` steps inside an operation, after which it has ended. -/
inductive OperationRun : Nat → State → State → Prop
  | ended {s : State} : s.running = .idle → OperationRun 0 s s
  | step {n : Nat} {s t u : State} : s.running ≠ .idle → step s = .next t → OperationRun n t u → OperationRun (n + 1) s u

namespace OperationRun

theorem idle {n : Nat} {s t : State} (h : OperationRun n s t) : t.running = .idle := by
  induction h with
  | ended h => exact h
  | step _ _ _ ih => exact ih

/-- The loop with fuel enough is the run. -/
theorem runLoop_eq {n : Nat} {s t : State} (h : OperationRun n s t) {fuel : Nat} (hfuel : n ≤ fuel) :
    runLoop fuel s = .next t := by
  induction h generalizing fuel with
  | ended hidle => exact runLoop_idle fuel hidle
  | step hrun hstep _ ih =>
    obtain ⟨fuel, rfl⟩ := Nat.exists_eq_add_of_le' (Nat.one_le_of_lt hfuel)
    rw [runLoop_succ fuel hrun, hstep]
    exact ih (by omega)

/-- What the steps keep, the run keeps. -/
theorem induct {P : State → Prop} (hP : ∀ s t, P s → s.running ≠ .idle → Machine.step s = .next t → P t) {n : Nat}
    {s t : State} (h : OperationRun n s t) (hs : P s) : P t := by
  induction h with
  | ended => exact hs
  | step hrun hstep _ ih => exact ih (hP _ _ hs hrun hstep)

theorem inv {n : Nat} {s t : State} (h : OperationRun n s t) (hs : s.Inv) : t.Inv := by
  refine h.induct (fun s t hs hrun hstep => ?_) hs
  obtain ⟨u, hu, hinv, -⟩ := hs.microstep hrun
  cases hstep.symm.trans hu
  exact hinv

theorem core_run_succ {s t : State} (h : Machine.step s = .next t) (n : Nat) :
    Host.Core.run core (n + 1) s = Host.Core.run core n t := by
  have hcore : core.step s = .next t := h
  simp only [Host.Core.run, hcore]

/-- The core's own steps give the run (70_reset_and_hazards.md R764). -/
theorem core_run {n : Nat} {s t : State} (h : OperationRun n s t) : Host.Core.run core n s = .next t := by
  induction h with
  | ended => rfl
  | @step n s t u hrun hstep _ ih =>
    exact (core_run_succ hstep n).trans ih

/-- Before its end the run is inside the operation. -/
theorem core_run_inside {n : Nat} {s t : State} (h : OperationRun n s t) (hs : s.Inv) {m : Nat} (hm : m < n) :
    ∃ u : State, Host.Core.run core m s = .next u ∧ u.running = s.running := by
  induction h generalizing m with
  | ended => exact absurd hm (Nat.not_lt_zero m)
  | @step n s t u hrun hstep hrest ih =>
    cases m with
    | zero => exact ⟨s, rfl, rfl⟩
    | succ m =>
      obtain ⟨t', ht', hinv, hgoes⟩ := hs.microstep hrun
      cases hstep.symm.trans ht'
      rcases hgoes with ⟨hop, -⟩ | ⟨hidle, -⟩
      · obtain ⟨v, hv, hop'⟩ := ih hinv (m := m) (by omega)
        exact ⟨v, (core_run_succ hstep m).trans hv, hop'.trans hop⟩
      · cases hrest with
        | ended => exact absurd hm (by omega)
        | step hrun' => exact absurd hidle hrun'

/-- A run ends as its operation does. -/
theorem endsAs {n : Nat} {s t : State} (h : OperationRun n s t) (hs : s.Inv) (hrun : s.running ≠ .idle) :
    Ended s.running t := by
  induction h with
  | ended hidle => exact absurd hidle hrun
  | @step n s t u _ hstep hrest ih =>
    obtain ⟨t', ht', hinv, hgoes⟩ := hs.microstep hrun
    cases hstep.symm.trans ht'
    rcases hgoes with ⟨hop, -⟩ | ⟨hidle, hended⟩
    · rw [← hop]
      exact ih hinv (hop ▸ hrun)
    · cases hrest with
      | ended => exact hended
      | step hrun' => exact absurd hidle hrun'

end OperationRun

/-- From a state with the invariant the operation ends, within the steps left to it. -/
theorem State.Inv.exists_run {s : State} (h : s.Inv) : ∃ n t, OperationRun n s t ∧ n ≤ s.microstepsLeft + 1 := by
  generalize hleft : s.microstepsLeft = left
  induction left using Nat.strong_induction_on generalizing s with
  | _ left ih =>
    subst hleft
    by_cases hrun : s.running = .idle
    · exact ⟨0, s, .ended hrun, Nat.zero_le _⟩
    obtain ⟨t, hstep, hinv, hgoes⟩ := h.microstep hrun
    rcases hgoes with ⟨-, hless⟩ | ⟨hidle, -⟩
    · obtain ⟨n, u, hu, hn⟩ := ih _ hless hinv rfl
      exact ⟨n + 1, u, .step hrun hstep hu, by omega⟩
    · exact ⟨1, t, .step hrun hstep (.ended hidle), by omega⟩

/-! ## The start of a loop -/

/-- The loop of READ_CODE or DECODE_FRAME begins in a state with the invariant (47_host_interface.md R653, R654). -/
theorem State.Inv.startLoop {s : State} (h : s.Inv) (hidle : s.running = .idle) (hconf : s.configured = true)
    (hactive : s.dstate = .active) {op : Running} {mode : FrameMode}
    (hop : op = .readCode ∧ mode = .codes ∧ s.frameMode ≠ .pixels ∨
      op = .decodeFrame ∧ mode = .pixels ∧ s.frameMode = .none) :
    (Machine.startLoop op { s with frameMode := mode }).Inv := by
  have hwait := h.idle hidle
  have hrun : op ≠ .idle := by rcases hop with ⟨rfl, -⟩ | ⟨rfl, -⟩ <;> decide
  have hmode : mode ≠ .none := by rcases hop with ⟨-, rfl, -⟩ | ⟨-, rfl, -⟩ <;> decide
  refine .of_parts (h.image.congr rfl (fun p => by cases p <;> rfl) rfl rfl)
    ⟨h.size, fun hc => absurd (hconf.symm.trans hc) (by decide), h.qscale, h.header, h.title, h.streamBits⟩
    ⟨h.totalMbs, h.totalBlocks, h.firstOfBlock, h.mbIndex, h.doneRole⟩ ⟨h.bitPos, h.vpos, h.prevDc, h.noPrevDc⟩
    ⟨h.failed, h.recorded, h.degenCount, fun hr => absurd hr hrun⟩ ⟨h.blk, h.nzCount, h.lastNz, h.rpos⟩ ?_
  refine ⟨h.noMerge, fun _ => h.pending hwait, h.pendingFit, fun hr => absurd hr hrun, ?_, ?_, fun _ _ => hactive,
    fun _ => .inl hactive, ?_, fun _ hm => absurd hm hmode, ?_, nofun⟩
  all_goals rcases hop with ⟨rfl, rfl, -⟩ | ⟨rfl, rfl, hfresh⟩
  · exact fun _ => rfl
  · exact nofun
  · exact nofun
  · exact fun _ => rfl
  · exact fun _ => nofun
  · exact fun _ _ => rfl
  · exact nofun
  · intro _ _ hlater
    have hinitial := h.fresh hactive hfresh
    have hlater' : s.trk.firstOfBlock = false := hlater
    rw [hinitial] at hlater'
    cases hlater'

/-- The steps left where the loop begins are fewer than the loop's fuel (70_reset_and_hazards.md R770). -/
theorem microstepsLeft_startLoop (op : Running) (s : State) :
    (Machine.startLoop op s).microstepsLeft + 1 ≤ loopFuel s := by
  simp only [State.microstepsLeft, Machine.startLoop, loopFuel, if_true]
  omega

/-- Between operations nothing waits, so the loop begins in the state with the operation set. -/
theorem startLoop_of_idle {s : State} (hwait : s.emitted = none) (op : Running) (mode : FrameMode) :
    startLoop op { s with frameMode := mode } = { s with frameMode := mode, running := op } := by
  rw [startLoop, ← hwait]

/-- The loop of an operation, from a state with the invariant, is a run of the core's steps that ends as the operation
does. -/
theorem State.Inv.runLoop_startLoop {s : State} (h : s.Inv) (hidle : s.running = .idle) (hconf : s.configured = true)
    (hactive : s.dstate = .active) {op : Running} {mode : FrameMode}
    (hop : op = .readCode ∧ mode = .codes ∧ s.frameMode ≠ .pixels ∨
      op = .decodeFrame ∧ mode = .pixels ∧ s.frameMode = .none) :
    ∃ n t, runLoop (loopFuel s) (Machine.startLoop op { s with frameMode := mode }) = .next t ∧
      OperationRun n { s with frameMode := mode, running := op } t ∧ t.Inv ∧ Ended op t := by
  have hstart := h.startLoop hidle hconf hactive hop
  have hrun : op ≠ .idle := by rcases hop with ⟨rfl, -⟩ | ⟨rfl, -⟩ <;> decide
  obtain ⟨n, t, hops, hn⟩ := hstart.exists_run
  have hloop := hops.runLoop_eq (hn.trans (microstepsLeft_startLoop op { s with frameMode := mode }))
  refine ⟨n, t, hloop, ?_, hops.inv hstart, hops.endsAs hstart hrun⟩
  rwa [← startLoop_of_idle (h.idle hidle)]

/-- READ_CODE of an ACTIVE frame is its loop (47_host_interface.md R653). -/
theorem exec_readCode_of_active {s : State} (hidle : s.running = .idle) (hconf : s.configured = true)
    (hactive : s.dstate = .active) (hmode : s.frameMode ≠ .pixels) :
    exec .readCode s = runLoop (loopFuel s) (startLoop .readCode { s with frameMode := .codes }) := by
  rw [exec_readCode_of_idle hidle, if_neg (by simp [hconf, hactive, hmode]), if_neg (by simp [hactive]),
    if_neg (by simp [hactive])]

/-- DECODE_FRAME of an ACTIVE frame is its loop (47_host_interface.md R654). -/
theorem exec_decodeFrame_of_active {s : State} (hidle : s.running = .idle) (hconf : s.configured = true)
    (hactive : s.dstate = .active) (hmode : s.frameMode = .none) :
    exec .decodeFrame s = runLoop (loopFuel s) (startLoop .decodeFrame { s with frameMode := .pixels }) := by
  rw [exec_decodeFrame_of_idle hidle, if_neg (by simp [hconf, hactive, hmode]), if_neg (by simp [hactive]),
    if_neg (by simp [hactive])]

/-- Settles O49: the loop is a run of the core's steps, each inside the operation, until it ends. -/
theorem operationsAreRunsOfSteps : Obligations.OperationsAreRunsOfSteps := by
  intro s h hidle hconf hactive
  have hwait := h.idle hidle
  constructor
  · intro hmode
    have hop : Running.readCode = .readCode ∧ FrameMode.codes = .codes ∧ s.frameMode ≠ .pixels ∨
        Running.readCode = .decodeFrame ∧ FrameMode.codes = .pixels ∧ s.frameMode = .none := .inl ⟨rfl, rfl, hmode⟩
    have hstart := startLoop_of_idle hwait .readCode .codes ▸ h.startLoop hidle hconf hactive hop
    obtain ⟨n, t, hloop, hops, -, hended⟩ := h.runLoop_startLoop hidle hconf hactive hop
    exact ⟨n, t, (exec_readCode_of_active hidle hconf hactive hmode).trans hloop, hops.core_run,
      fun m hm => hops.core_run_inside hstart hm, hops.idle, hended.symm⟩
  · intro hmode
    have hop : Running.decodeFrame = .readCode ∧ FrameMode.pixels = .codes ∧ s.frameMode ≠ .pixels ∨
        Running.decodeFrame = .decodeFrame ∧ FrameMode.pixels = .pixels ∧ s.frameMode = .none :=
      .inr ⟨rfl, rfl, hmode⟩
    have hstart := startLoop_of_idle hwait .decodeFrame .pixels ▸ h.startLoop hidle hconf hactive hop
    obtain ⟨n, t, hloop, hops, -, hended⟩ := h.runLoop_startLoop hidle hconf hactive hop
    exact ⟨n, t, (exec_decodeFrame_of_active hidle hconf hactive hmode).trans hloop, hops.core_run,
      fun m hm => hops.core_run_inside hstart hm, hops.idle, hended.symm⟩

end Sys2Proof.Machine

/-! PROOFS. What the host's commands do to the invariant (47_host_interface.md R650 to R657; 10_state.md R70). -/

namespace Sys2Proof.Machine

/-! ## A step between operations -/

/-- What a step between operations gives: a state between operations with the invariant, and never RUN_OUT_OF_BOUNDS
(45_reconstruction.md R559; 70_reset_and_hazards.md R764, R770). -/
structure HostStep (s t : State) : Prop where
  inv : t.Inv
  idle : t.running = .idle
  cause : s.status.errCause ≠ some .runOutOfBounds → t.status.errCause ≠ some .runOutOfBounds

/-- Between operations the outcome, the requests, `QT` and the host's arrays are free; so are the planes and the warning
that stands, and once the frame is not ACTIVE its mode. -/
theorem State.Inv.between {s : State} (h : s.Inv) (hidle : s.running = .idle) {t : State} {hostIn : List (List Byte)}
    {reply : Option Reply} {qt : Vector Byte 64} {outRgb : Memory (Option Pixel)} {outYuv : Memory (Option Sample)}
    {m : FrameMode} {y cb cr : Memory Sample} {w : Warn}
    (ht : t = { s with
      hostIn := hostIn, reply := reply, qt := qt, outRgb := outRgb, outYuv := outYuv, frameMode := m
      planeY := y, planeCb := cb, planeCr := cr, status := { s.status with warn := w } })
    (himage : ImageInv t) (hmode : m = s.frameMode ∨ s.dstate ≠ .active)
    (hwarn : s.status.warn.degenerateCodes = true → w.degenerateCodes = true) : HostStep s t := by
  have hwait := h.idle hidle
  have hmode' (hactive : s.dstate = .active) : m = s.frameMode := hmode.resolve_right (not_not_intro hactive)
  subst ht
  refine ⟨.of_parts himage ⟨h.size, h.unconfigured, h.qscale, h.header, h.title, h.streamBits⟩
    ⟨h.totalMbs, h.totalBlocks, h.firstOfBlock, h.mbIndex, h.doneRole⟩ ⟨h.bitPos, h.vpos, h.prevDc, h.noPrevDc⟩
    ⟨h.failed, h.recorded, h.degenCount, fun _ hend hcount => hwarn (h.degenerate hidle hend hcount)⟩
    ⟨h.blk, h.nzCount, h.lastNz, h.rpos⟩ ⟨h.noMerge, fun _ => h.pending hwait, h.pendingFit, fun _ => hwait,
      fun hop => absurd (hidle.symm.trans hop) (by decide), fun hop => absurd (hidle.symm.trans hop) (by decide),
      fun hop => absurd hidle hop, fun hop => absurd hidle hop, fun hactive hm => ?_, fun hactive hm => ?_,
      fun hop => absurd (hidle.symm.trans hop) (by decide), fun e he => nomatch hwait.symm.trans he⟩, hidle, id⟩
  · exact h.pixels hactive ((hmode' hactive).symm.trans hm)
  · exact h.fresh hactive ((hmode' hactive).symm.trans hm)

/-- An operation that only answers. -/
theorem State.Inv.answer {s : State} (h : s.Inv) (hidle : s.running = .idle) (r : Option Reply) :
    HostStep s { s with reply := r } :=
  h.between hidle rfl (h.image.congr rfl (fun p => by cases p <;> rfl) rfl rfl) (.inl rfl) id

/-- A refusal changes the outcome alone. -/
theorem State.Inv.exec_refuse {s : State} (h : s.Inv) (hidle : s.running = .idle) :
    ∃ t, refuse s = .next t ∧ HostStep s t := ⟨_, rfl, h.answer hidle _⟩

/-! ## CONFIGURE, SET_QUANT and the outputs -/

/-- A size within the limits is the configuration's (47_host_interface.md R650). -/
theorem toNat_ofInt_size {v : Int} {m : Half} (h1 : 1 ≤ v) (hm : v ≤ m.toNat) : ((BitVec.ofInt 16 v).toNat : Int) = v := by
  have := m.isLt
  rw [BitVec.toNat_ofInt]
  omega

/-- The predictors at a frame's start are in range (10_state.md R64). -/
theorem PrevDc.zero_mem (r : Role) : -512 ≤ PrevDc.get ⟨0, 0, 0⟩ r ∧ PrevDc.get ⟨0, 0, 0⟩ r ≤ 511 := by
  cases r <;> decide

theorem State.Inv.exec_configure {s : State} (h : s.Inv) (hidle : s.running = .idle) (width height : Int) (v : Variant)
    (merge : Bool) (u : Upsampler) : ∃ t, exec (.configure width height v merge u) s = .next t ∧ HostStep s t := by
  rw [exec_configure_of_idle hidle]
  by_cases hsize : 1 ≤ width ∧ width ≤ s.params.maxDim.toNat ∧ 1 ≤ height ∧ height ≤ s.params.maxDim.toNat
  case neg =>
    rw [if_pos hsize]
    exact h.exec_refuse hidle
  rw [if_neg (not_not_intro hsize)]
  split
  case isTrue => exact h.exec_refuse hidle
  obtain ⟨hw1, hw, hh1, hh⟩ := hsize
  have hwidth := toNat_ofInt_size hw1 hw
  have hheight := toNat_ofInt_size hh1 hh
  have hcount : 0 < Cfg.mbCount ⟨BitVec.ofInt 16 width, BitVec.ofInt 16 height, v, merge, u⟩ :=
    Cfg.mbCount_pos (by show 1 ≤ (BitVec.ofInt 16 width).toNat; omega) (by show 1 ≤ (BitVec.ofInt 16 height).toNat; omega)
  refine ⟨_, rfl, .of_parts ⟨fun p => .of_nil (by cases p <;> rfl), h.outRgb, h.outYuv⟩ ?frame
    ⟨rfl, rfl, iff_of_true rfl rfl, fun _ => ⟨Nat.zero_le _, fun h0 => absurd h0 hcount.ne, nofun⟩, nofun⟩
    ⟨Nat.le_refl _, Nat.zero_le _, PrevDc.zero_mem, fun _ => rfl⟩
    ⟨iff_of_false nofun (not_not_intro rfl), nofun, rfl, fun _ hend => hend.elim nofun nofun⟩
    ⟨fun i => ?blk, Nat.zero_le _, fun h0 => absurd h0 (Nat.not_succ_le_zero 0), Nat.zero_le _⟩
    ⟨fun _ => rfl, fun _ => ⟨Nat.zero_le _, fun _ => rfl⟩, Nat.zero_le _, fun _ => rfl, nofun, nofun,
      fun hop => absurd rfl hop, fun hop => absurd rfl hop, nofun, nofun, nofun, nofun⟩, rfl, fun _ => nofun⟩
  case frame =>
    refine ⟨fun _ => ⟨?_, ?_, ?_, ?_⟩, nofun, ⟨nofun, nofun⟩, fun hd => hd.elim nofun nofun, nofun,
      fun hd => hd.elim nofun nofun⟩
    · show 1 ≤ (BitVec.ofInt 16 width).toNat; omega
    · show (BitVec.ofInt 16 width).toNat ≤ s.params.maxDim.toNat; omega
    · show 1 ≤ (BitVec.ofInt 16 height).toNat; omega
    · show (BitVec.ofInt 16 height).toNat ≤ s.params.maxDim.toNat; omega
  case blk =>
    show sampleKind v (Vector.replicate 64 (zeroSample v))[i] = true
    simpa using sampleKind_zeroSample v

theorem State.Inv.exec_setQuant {s : State} (h : s.Inv) (hidle : s.running = .idle) (table : List Int) :
    ∃ t, exec (.setQuant table) s = .next t ∧ HostStep s t := by
  have himage (qt : Vector Byte 64) : ImageInv { s with qt := qt, reply := some .ok } :=
    h.image.congr rfl (fun p => by cases p <;> rfl) rfl rfl
  rw [exec_setQuant_of_idle hidle]
  repeat' split
  all_goals first
    | exact h.exec_refuse hidle
    | exact ⟨_, rfl, h.between hidle rfl (himage _) (.inl rfl) id⟩

theorem State.Inv.exec_readRgb {s : State} (h : s.Inv) (hidle : s.running = .idle) (len offset stride : Nat) :
    ∃ t, exec (.readRgb len offset stride) s = .next t ∧ HostStep s t := by
  rw [exec_readRgb_of_idle hidle]
  split_ifs
  · exact h.exec_refuse hidle
  · exact h.exec_refuse hidle
  refine ⟨_, rfl, h.between hidle rfl ⟨fun p => (h.plane p).congr rfl (by cases p <;> rfl), ?_, h.outYuv⟩ (.inl rfl) id⟩
  exact rgbWrites_wf s offset stride _ h.outRgb

theorem State.Inv.exec_readYcbcr420 {s : State} (h : s.Inv) (hidle : s.running = .idle) (len : Nat) (c : Colorspace) :
    ∃ t, exec (.readYcbcr420 len c) s = .next t ∧ HostStep s t := by
  rw [exec_readYcbcr420_of_idle hidle]
  split_ifs
  · exact h.exec_refuse hidle
  · exact h.exec_refuse hidle
  · exact h.exec_refuse hidle
  refine ⟨_, rfl, h.between hidle rfl ⟨fun p => (h.plane p).congr rfl (by cases p <;> rfl), h.outRgb, ?_⟩ (.inl rfl) id⟩
  exact writeFrom_wf _ _ _ h.outYuv

theorem State.Inv.exec_queryStatus {s : State} (h : s.Inv) (hidle : s.running = .idle) :
    ∃ t, exec .queryStatus s = .next t ∧ HostStep s t :=
  ⟨_, exec_queryStatus_of_idle hidle, h.answer hidle _⟩

end Sys2Proof.Machine

/-! PROOFS. LOAD_FRAME, READ_CODE and DECODE_FRAME keep the invariant (47_host_interface.md R652 to R654), and so does
every step (10_state.md; 60_exceptions.md R712, R720; 70_reset_and_hazards.md R750, R764). -/

namespace Sys2Proof.Machine

/-! ## LOAD_FRAME -/

/-- What the identification of a header gives (41_entropy_header.md R251 to R256): a qscale is never 0, the title table is
a title format's, a good header holds all the frame's rules read, and no error is RUN_OUT_OF_BOUNDS. -/
structure HeaderResult.Good (r : HeaderResult) : Prop where
  qscale : r.state.hdr.qscaleL ≠ some 0#6 ∧ r.state.hdr.qscaleC ≠ some 0#6
  title : r.state.hdr.acTable = some .title →
    ∃ t f, r.state.fmt = some (.title t) ∧ titleFormat? r.state.params t = some f
  header : r.error = none →
    r.state.fmt ≠ none ∧ r.state.hdr.qscaleL ≠ none ∧ r.state.hdr.qscaleC ≠ none ∧ r.state.hdr.dcMode ≠ none ∧
      r.state.hdr.acTable ≠ none ∧ r.state.hdr.body ≠ none
  cause : ∀ c v, r.error = some (c, v) → c ≠ .runOutOfBounds

/-- An error of the identification that leaves the qscales and the table empty. -/
theorem HeaderResult.Good.of_error {s : State} {c : Cause} {v : Option CtxValue} (hl : s.hdr.qscaleL = none)
    (hc : s.hdr.qscaleC = none) (ha : s.hdr.acTable = none) (hcause : c ≠ .runOutOfBounds) :
    HeaderResult.Good ⟨s, some (c, v)⟩ where
  qscale := by rw [hl, hc]; exact ⟨nofun, nofun⟩
  title h := nomatch ha.symm.trans h
  header := nofun
  cause _ _ h := by cases h; exact hcause

/-- A qscale word from 1 to 63 is a qscale that is not 0 (41_entropy_header.md R255). -/
theorem setWidth_ne_zero {q : Half} (h0 : q ≠ 0#16) (h63 : ¬ q.toNat > 63) : q.setWidth 6 ≠ 0#6 := by
  intro h
  refine h0 (BitVec.eq_of_toNat_eq ?_)
  have hval := congrArg BitVec.toNat h
  rw [BitVec.toNat_setWidth] at hval
  rw [← Nat.mod_eq_of_lt (show q.toNat < 2 ^ 6 by omega)]
  exact hval

/-- The mainline parse of an empty header (41_entropy_header.md R255); the format stands before it or is set after it. -/
theorem parseMainline_good_or_error (b : Nat) {s : State} (hempty : s.hdr = Hdr.empty) (fmt : Option Fmt)
    (hfmt : fmt ≠ none) :
    (∃ c v, (parseMainline b s).error = some (c, v) ∧ (parseMainline b s).Good) ∨
    (parseMainline b s).error = none ∧
      HeaderResult.Good ⟨{ (parseMainline b s).state with fmt := fmt }, none⟩ := by
  simp only [parseMainline, hempty]
  split
  case isTrue => exact .inl ⟨_, _, rfl, .of_error rfl rfl rfl (by decide)⟩
  case isFalse h0 =>
    split
    case isTrue => exact .inl ⟨_, _, rfl, .of_error rfl rfl rfl (by decide)⟩
    case isFalse h63 =>
      have hne : ∀ q : BitVec 6, q ≠ 0#6 → some q ≠ some 0#6 := fun q hq h => hq (Option.some.inj h)
      split
      case isTrue =>
        exact .inr ⟨rfl, ⟨hne _ (setWidth_ne_zero h0 h63), hne _ (setWidth_ne_zero h0 h63)⟩, nofun,
          fun _ => ⟨hfmt, nofun, nofun, nofun, nofun, nofun⟩, nofun⟩
      case isFalse => exact .inl ⟨_, _, rfl, .of_error rfl rfl rfl (by decide)⟩

/-- A title's qscale is from 1 to 63 (41_entropy_header.md R256). -/
theorem titleQscale_ne_zero (q : Fin 63) : some (BitVec.ofNat 6 (q.val + 1)) ≠ some 0#6 := by
  intro h
  have hval := congrArg BitVec.toNat (Option.some.inj h)
  rw [BitVec.toNat_ofNat] at hval
  have := q.isLt
  simp at hval
  omega

/-- The parse of a title format (41_entropy_header.md R256). -/
theorem parseTitle_good {f : TitleFormat} {s : State} (hempty : s.hdr = Hdr.empty) (hf : f ∈ s.params.titleFormats) :
    (parseTitle f s).Good := by
  unfold parseTitle
  dsimp only
  split
  case h_1 e _ =>
    exact .of_error (by rw [hempty]; rfl) (by rw [hempty]; rfl) (by rw [hempty]; rfl) (by cases e <;> exact nofun)
  case h_2 h _ =>
    refine ⟨⟨titleQscale_ne_zero _, titleQscale_ne_zero _⟩, fun _ => ?_, fun _ => ⟨nofun, nofun, nofun, nofun, nofun, nofun⟩,
      nofun⟩
    have hsome : (titleFormat? s.params f.name).isSome = true :=
      List.find?_isSome.mpr ⟨f, hf, by simp⟩
    obtain ⟨g, hg⟩ := Option.isSome_iff_exists.mp hsome
    exact ⟨f.name, g, rfl, hg⟩

/-- The identification of a buffer, from an empty header (41_entropy_header.md R251). -/
theorem identify_good {s : State} (hempty : s.hdr = Hdr.empty) : (identify s).Good := by
  have hnone (c : Cause) (v : Option CtxValue) (hc : c ≠ .runOutOfBounds) : HeaderResult.Good ⟨s, some (c, v)⟩ :=
    .of_error (by rw [hempty]; rfl) (by rw [hempty]; rfl) (by rw [hempty]; rfl) hc
  by_cases hmain : 8 ≤ s.inBuf.length ∧ memRead16 s.inBuf 2 = some 0x3800#16
  · rw [identify_mainline hmain.1 hmain.2]
    rcases parseMainline_good_or_error 0 hempty (some (mainlineFormat (parseMainline 0 s).state.hdr.dcMode)) nofun with
      ⟨c, v, herror, hgood⟩ | ⟨herror, hgood⟩
    · rw [herror]
      exact ⟨hgood.qscale, hgood.title, nofun, fun c' v' h => hgood.cause c' v' (herror.trans h)⟩
    · rw [herror]
      exact hgood
  have hno : 8 ≤ s.inBuf.length → memRead16 s.inBuf 2 ≠ some 0x3800#16 := fun h1 h2 => hmain ⟨h1, h2⟩
  by_cases hprefix : 48 ≤ s.inBuf.length ∧ memRead16 s.inBuf 42 = some 0x3800#16
  · rw [identify_prefix40 hno hprefix.1 hprefix.2]
    rcases parseMainline_good_or_error 40 (s := { s with fmt := some .prefix40 }) hempty (some .prefix40) nofun with
      ⟨c, v, -, hgood⟩ | ⟨herror, hgood⟩
    · exact hgood
    · have hfmt : ∃ hdr, (parseMainline 40 { s with fmt := some .prefix40 }).state =
          { s with fmt := some .prefix40, hdr := hdr } := by
        unfold parseMainline
        dsimp only
        repeat' split
        all_goals exact ⟨_, rfl⟩
      obtain ⟨hdr, hstate⟩ := hfmt
      rw [hstate] at hgood
      exact ⟨by rw [hstate]; exact hgood.qscale, by rw [hstate]; exact hgood.title, fun _ => by rw [hstate]; exact hgood.header rfl,
        fun c v h => nomatch herror.symm.trans h⟩
  rw [identify_title hno fun h1 h2 => hprefix ⟨h1, h2⟩]
  split
  case h_1 f hf => exact parseTitle_good hempty (List.mem_of_find?_eq_some hf)
  case h_2 => exact hnone _ _ (by decide)

theorem State.Inv.exec_loadFrame {s : State} (h : s.Inv) (hidle : s.running = .idle) (bytes : List Byte) :
    ∃ t, exec (.loadFrame bytes) s = .next t ∧ HostStep s t := by
  by_cases hconf : s.configured = true
  case neg =>
    have hrefuse : exec (.loadFrame bytes) s = refuse s :=
      (whenIdle_of_idle hidle _).trans (if_pos (Bool.eq_false_iff.mpr hconf))
    rw [hrefuse]
    exact h.exec_refuse hidle
  rw [exec_loadFrame_of_idle hidle hconf]
  have hgood := identify_good (s := frameStart bytes s) rfl
  obtain ⟨fmt, hdr, hstate⟩ := identify_state (frameStart bytes s)
  obtain ⟨hqscale, htitle, hheader, hcause⟩ := hgood
  obtain ⟨hw, -, hh, -⟩ := h.size hconf
  have hcount : 0 < s.cfg.mbCount := Cfg.mbCount_pos hw hh
  rw [hstate] at hqscale htitle hheader
  have hunconf {P : Prop} (hc : s.configured = false) : P := absurd (hconf.symm.trans hc) (by decide)
  cases herror : (identify (frameStart bytes s)).error with
  | some e =>
    obtain ⟨c, v⟩ := e
    simp only [hstate]
    refine ⟨_, rfl, .of_parts (h.image.congr rfl (fun p => by cases p <;> rfl) rfl rfl)
      ⟨h.size, fun hc => hunconf hc, hqscale, fun hd => hd.elim nofun nofun, htitle, fun hd => hd.elim nofun nofun⟩
      ⟨rfl, rfl, iff_of_true rfl rfl, fun _ => ⟨Nat.zero_le _, fun h0 => absurd h0 hcount.ne, nofun⟩, nofun⟩
      ⟨Nat.le_refl _, Nat.zero_le _, PrevDc.zero_mem, fun _ => rfl⟩
      ⟨iff_of_true rfl nofun, fun _ => nofun, rfl, fun _ _ hpos => absurd hpos (Nat.lt_irrefl 0)⟩
      ⟨h.blk, h.nzCount, h.lastNz, h.rpos⟩
      ⟨fun _ => rfl, fun _ => ⟨Nat.zero_le _, fun _ => rfl⟩, Nat.zero_le _, fun _ => h.idle hidle,
        fun hop => absurd (hidle.symm.trans hop) (by decide), fun hop => absurd (hidle.symm.trans hop) (by decide),
        fun hop => absurd hidle hop, fun hop => absurd hidle hop, nofun, nofun,
        fun hop => absurd (hidle.symm.trans hop) (by decide), fun e he => nomatch (h.idle hidle).symm.trans he⟩,
      hidle, fun _ hc => ?_⟩
    exact hcause c v herror (Option.some.inj hc)
  | none =>
    obtain ⟨-, -, -, -, -, hsome⟩ := hheader herror
    obtain ⟨body, hbody⟩ := Option.ne_none_iff_exists'.mp hsome
    have hbegin := beginStream_eq (s := { frameStart bytes s with fmt := fmt, hdr := hdr }) hbody (by exact hcount) rfl
    simp only [hstate, hbegin]
    refine ⟨_, rfl, .of_parts (h.image.congr rfl (fun p => by cases p <;> rfl) rfl rfl)
      ⟨h.size, fun hc => hunconf hc, hqscale, fun _ => hheader herror, htitle, fun _ => ?_⟩
      ⟨rfl, rfl, iff_of_true rfl rfl, fun _ => ⟨Nat.zero_le _, fun h0 => absurd h0 hcount.ne, nofun⟩, nofun⟩
      ⟨Nat.zero_le _, Nat.zero_le _, PrevDc.zero_mem, fun _ => rfl⟩
      ⟨iff_of_false nofun (not_not_intro rfl), nofun, rfl, fun _ _ hpos => absurd hpos (Nat.lt_irrefl 0)⟩
      ⟨h.blk, h.nzCount, h.lastNz, h.rpos⟩
      ⟨fun _ => rfl, fun _ => ⟨Nat.zero_le _, fun _ => rfl⟩, Nat.zero_le _, fun _ => h.idle hidle,
        fun hop => absurd (hidle.symm.trans hop) (by decide), fun hop => absurd (hidle.symm.trans hop) (by decide),
        fun hop => absurd hidle hop, fun hop => absurd hidle hop, fun _ => nofun, fun _ _ => rfl,
        fun hop => absurd (hidle.symm.trans hop) (by decide), fun e he => nomatch (h.idle hidle).symm.trans he⟩,
      hidle, fun _ => nofun⟩
    show 16 * ((bytes.length - body) / 2) = 16 * ((bytes.length - hdr.body.getD 0) / 2)
    rw [show hdr.body = some body from hbody]
    rfl

/-! ## READ_CODE and DECODE_FRAME -/

/-- Inside an operation a step never raises RUN_OUT_OF_BOUNDS: the decoder's run check fails first
(43_entropy_ac.md R353; 45_reconstruction.md R559). -/
theorem State.Inv.microstep_cause {s t : State} (h : s.Inv) (hrun : s.running ≠ .idle) (ht : step s = .next t)
    (hs : s.status.errCause ≠ some .runOutOfBounds) : t.status.errCause ≠ some .runOutOfBounds := by
  cases hw : s.emitted with
  | none =>
    obtain ⟨u, len, -, hu, hstep⟩ := h.decode hrun hw
    cases ht.symm.trans hu
    cases hstep with
    | fails e b v hb hv he => rw [(fail_frameFails e _).1]; exact he
    | dc | run | eob => exact hs
  | some e =>
    obtain ⟨u, hu, hstep⟩ := h.consume hrun hw
    cases ht.symm.trans hu
    cases hstep with
    | absorbed => exact hs
    | engine => exact hs
    | returned k w =>
      split
      · rw [endFrame_eq]; exact hs
      · exact hs
    | eob =>
      obtain ⟨y, cb, cr, hwrite⟩ := writeBlock_withPlanes e.mbIndex e.role (fun k => blockSample s (Fin.ofNat 64 k))
        (s.consumed 0 none)
      rw [hwrite, continueDecode_eq]
      dsimp only
      split <;> exact hs

/-- The loop of READ_CODE or DECODE_FRAME gives a state between operations. -/
theorem State.Inv.exec_loop {s : State} (h : s.Inv) (hidle : s.running = .idle) (hconf : s.configured = true)
    (hactive : s.dstate = .active) {op : Running} {mode : FrameMode}
    (hop : op = .readCode ∧ mode = .codes ∧ s.frameMode ≠ .pixels ∨
      op = .decodeFrame ∧ mode = .pixels ∧ s.frameMode = .none) :
    ∃ t, runLoop (loopFuel s) (Machine.startLoop op { s with frameMode := mode }) = .next t ∧ HostStep s t := by
  have hstart := h.startLoop hidle hconf hactive hop
  obtain ⟨n, t, hloop, hops, hinv, -⟩ := h.runLoop_startLoop hidle hconf hactive hop
  refine ⟨t, hloop, hinv, hops.idle, fun hs => ?_⟩
  rw [startLoop_of_idle (h.idle hidle)] at hstart
  have hboth := hops.induct (P := fun s => s.Inv ∧ s.status.errCause ≠ some .runOutOfBounds)
    (fun u v ⟨hu, hc⟩ hrun hstep => by
      obtain ⟨v', hv', hinv, -⟩ := hu.microstep hrun
      cases hstep.symm.trans hv'
      exact ⟨hinv, hu.microstep_cause hrun hstep hc⟩) ⟨hstart, hs⟩
  exact hboth.2

/-- A failed frame's error is returned again (60_exceptions.md R712). -/
theorem State.Inv.exists_recorded {s : State} (h : s.Inv) (hfailed : s.dstate = .failed) :
    ∃ r, recordedReply s = some r := Option.ne_none_iff_exists'.mp (h.recorded hfailed)

theorem State.Inv.exec_readCode {s : State} (h : s.Inv) (hidle : s.running = .idle) :
    ∃ t, exec .readCode s = .next t ∧ HostStep s t := by
  have himage (r : Option Reply) : ImageInv { s with frameMode := .codes, reply := r } :=
    h.image.congr rfl (fun p => by cases p <;> rfl) rfl rfl
  rw [exec_readCode_of_idle hidle]
  split
  case isTrue => exact h.exec_refuse hidle
  case isFalse hlegal =>
    obtain ⟨hconf, hd, hmode⟩ : s.configured = true ∧ s.dstate ≠ .idle ∧ s.frameMode ≠ .pixels := by
      simpa using hlegal
    split
    case isTrue hdone => exact ⟨_, rfl, h.between hidle rfl (himage _) (.inr (by simp [hdone])) id⟩
    case isFalse hnotdone =>
      split
      case isTrue hfailed =>
        obtain ⟨r, hr⟩ := h.exists_recorded hfailed
        exact ⟨_, returnRecorded_eq (s := { s with frameMode := .codes }) hr,
          h.between hidle rfl (himage _) (.inr (by simp [hfailed])) id⟩
      case isFalse hnotfailed =>
        have hactive : s.dstate = .active := by
          cases hs : s.dstate <;> simp [hs] at hd hnotdone hnotfailed ⊢
        exact h.exec_loop hidle hconf hactive (.inl ⟨rfl, rfl, hmode⟩)

/-- The zero-fill of a whole frame keeps the planes in form (45_reconstruction.md R573). -/
theorem ImageInv.zeroFillFrom {s : State} (h : ImageInv s) (i : Nat) (r : Role) :
    ImageInv (Machine.zeroFillFrom i r s) := by
  have hplane := PlaneInv.zeroFillFrom h.plane i r
  obtain ⟨y, cb, cr, heq⟩ := zeroFillFrom_withPlanes i r s
  rw [heq] at hplane ⊢
  exact ⟨hplane, h.outRgb, h.outYuv⟩

/-- DECODE_FRAME of a failed frame returns the recorded error with the planes zero-filled (47_host_interface.md R654). -/
theorem exec_decodeFrame_of_failed {s : State} {r : Reply} (hidle : s.running = .idle) (hconf : s.configured = true)
    (hmode : s.frameMode = .none) (hfailed : s.dstate = .failed) (hr : recordedReply s = some r) :
    ∃ y cb cr, zeroFillFrom 0 .cr { s with frameMode := .pixels } = { s with frameMode := .pixels }.withPlanes y cb cr ∧
      exec .decodeFrame s = .next { { s with frameMode := .pixels }.withPlanes y cb cr with reply := some r } := by
  obtain ⟨y, cb, cr, heq⟩ := zeroFillFrom_withPlanes 0 .cr { s with frameMode := .pixels }
  refine ⟨y, cb, cr, heq, ?_⟩
  rw [exec_decodeFrame_of_idle hidle, if_neg (by simp [hconf, hfailed, hmode]), if_pos hfailed, heq]
  exact returnRecorded_eq (s := { s with frameMode := .pixels }.withPlanes y cb cr) hr

theorem State.Inv.exec_decodeFrame {s : State} (h : s.Inv) (hidle : s.running = .idle) :
    ∃ t, exec .decodeFrame s = .next t ∧ HostStep s t := by
  by_cases hillegal : s.configured = false ∨ s.dstate = .idle ∨ s.frameMode ≠ .none
  case pos =>
    rw [exec_decodeFrame_of_idle hidle, if_pos hillegal]
    exact h.exec_refuse hidle
  obtain ⟨hconf, hd, hmode⟩ : s.configured = true ∧ s.dstate ≠ .idle ∧ s.frameMode = .none := by
    simpa using hillegal
  cases hs : s.dstate with
  | idle => exact absurd hs hd
  | active =>
    rw [exec_decodeFrame_of_active hidle hconf hs hmode]
    exact h.exec_loop hidle hconf hs (.inr ⟨rfl, rfl, hmode⟩)
  | failed =>
    obtain ⟨r, hr⟩ := h.exists_recorded hs
    obtain ⟨y, cb, cr, hfill, heq⟩ := exec_decodeFrame_of_failed hidle hconf hmode hs hr
    have hmoded : ImageInv { s with frameMode := .pixels } := h.image.congr rfl (fun p => by cases p <;> rfl) rfl rfl
    have himage := hmoded.zeroFillFrom 0 .cr
    rw [hfill] at himage
    exact ⟨_, heq, h.between hidle rfl (himage.congr rfl (fun p => by cases p <;> rfl) rfl rfl)
      (.inr (by simp [hs])) id⟩
  | done =>
    rw [exec_decodeFrame_of_idle hidle, if_neg hillegal, if_neg (by simp [hs]), if_pos hs, endFrame_eq]
    have hwait := h.idle hidle
    have hcount : ({ s.status with
        warn := { s.status.warn with
          degenerateCodes := s.status.warn.degenerateCodes || decide (0 < s.degenCount) }
        degenCount := s.degenCount } : Status) = { s.status with
        warn := { s.status.warn with
          degenerateCodes := s.status.warn.degenerateCodes || decide (0 < s.degenCount) } } := by
      rw [← h.degenCount]
    refine ⟨_, rfl, h.between (m := .pixels) (y := s.planeY) (cb := s.planeCb) (cr := s.planeCr) (qt := s.qt)
      (hostIn := s.hostIn) (outRgb := s.outRgb) (outYuv := s.outYuv) (reply := some .ok)
      (w := ⟨s.status.warn.partialUnit, s.status.warn.degenerateCodes || decide (0 < s.degenCount)⟩) hidle ?_ ?_
      (.inr (by simp [hs])) fun hw => Bool.or_eq_true_iff.mpr (.inl hw)⟩
    · rw [finish, hcount, ← hidle, ← hwait]
    · exact h.image.congr rfl (fun p => by cases p <;> rfl) rfl rfl

/-! ## Every step -/

/-- A command between operations is carried out (47_host_interface.md R648). -/
theorem State.Inv.exec_command {s : State} (h : s.Inv) (hidle : s.running = .idle) {i : Instr}
    (hi : contextOf i = .command) : ∃ t, exec i s = .next t ∧ HostStep s t := by
  cases i with
  | configure width height v merge u => exact h.exec_configure hidle width height v merge u
  | setQuant table => exact h.exec_setQuant hidle table
  | loadFrame bytes => exact h.exec_loadFrame hidle bytes
  | readCode => exact h.exec_readCode hidle
  | decodeFrame => exact h.exec_decodeFrame hidle
  | readRgb len offset stride => exact h.exec_readRgb hidle len offset stride
  | readYcbcr420 len space => exact h.exec_readYcbcr420 hidle len space
  | queryStatus => exact h.exec_queryStatus hidle
  | _ => exact nomatch hi

/-- The commands that begin a configuration or a frame (10_state.md R70). -/
def Instr.BeginsFrame (i : Instr) : Prop :=
  (∃ width height v merge u, i = .configure width height v merge u) ∨ ∃ bytes, i = .loadFrame bytes

/-- What a request decodes to is a command, and only the ids 1 and 3 begin a frame (47_host_interface.md R658). -/
theorem decodeCommand_command {request : List Byte} {i : Instr} (h : decodeCommand request = .ok i) :
    contextOf i = .command ∧ (Instr.BeginsFrame i → request.head? = some 1#8 ∨ request.head? = some 3#8) := by
  cases request with
  | nil => cases h
  | cons id ops =>
    have hops : decodeOperands id ops = some (some i) := by
      rw [decodeCommand] at h
      split at h <;> cases h
      assumption
    unfold decodeOperands at hops
    have hbare {j : Instr} (hj : decodeBare j ops = some i) : i = j := by
      cases ops <;> cases hj
      rfl
    split_ifs at hops with h1 h2 h3 h4 h5 h6 h7 h8 <;> simp only [Option.some.injEq] at hops
    · subst h1
      refine ⟨?_, fun _ => .inl rfl⟩
      unfold decodeConfigure at hops
      repeat' split at hops
      all_goals cases hops
      all_goals rfl
    · unfold decodeSetQuant at hops
      repeat' split at hops
      all_goals cases hops
      all_goals exact ⟨rfl, by simp [Instr.BeginsFrame]⟩
    · subst h3 hops
      exact ⟨rfl, fun _ => .inr rfl⟩
    · cases hbare hops
      exact ⟨rfl, by simp [Instr.BeginsFrame]⟩
    · cases hbare hops
      exact ⟨rfl, by simp [Instr.BeginsFrame]⟩
    · unfold decodeReadRgb at hops
      repeat' split at hops
      all_goals cases hops
      all_goals exact ⟨rfl, by simp [Instr.BeginsFrame]⟩
    · unfold decodeReadYcbcr420 at hops
      repeat' split at hops
      all_goals cases hops
      all_goals exact ⟨rfl, by simp [Instr.BeginsFrame]⟩
    · cases hbare hops
      exact ⟨rfl, by simp [Instr.BeginsFrame]⟩

/-- Taking a request leaves the invariant. -/
theorem State.Inv.takeRequest {s : State} (h : s.Inv) (hidle : s.running = .idle) (rest : List (List Byte)) :
    HostStep s { s with hostIn := rest } :=
  h.between hidle rfl (h.image.congr rfl (fun p => by cases p <;> rfl) rfl rfl) (.inl rfl) id

/-- Between operations a step is a whole operation (70_reset_and_hazards.md R764, R770). -/
theorem State.Inv.hostStep {s : State} (h : s.Inv) (hidle : s.running = .idle) : ∃ t, step s = .next t ∧ HostStep s t := by
  rw [step_of_idle hidle, Machine.hostStep]
  cases hreq : s.hostIn with
  | nil =>
    simp only [nextRequest, hreq]
    exact ⟨s, rfl, h, hidle, id⟩
  | cons request rest =>
    simp only [nextRequest, hreq]
    have htaken := h.takeRequest hidle rest
    have hafter {t : State} (h : HostStep { s with hostIn := rest } t) : HostStep s t := ⟨h.inv, h.idle, h.cause⟩
    cases hdec : decodeCommand request with
    | error e =>
      obtain ⟨t, ht, hstep⟩ := htaken.inv.exec_refuse hidle
      exact ⟨t, ht, hafter hstep⟩
    | ok i =>
      obtain ⟨t, ht, hstep⟩ := htaken.inv.exec_command hidle (decodeCommand_command hdec).1
      exact ⟨t, ht, hafter hstep⟩

/-- A step from a state with the invariant gives one (10_state.md R50). -/
theorem State.Inv.step {s : State} (h : s.Inv) : ∃ t, Machine.step s = .next t ∧ t.Inv := by
  by_cases hidle : s.running = .idle
  · obtain ⟨t, ht, hstep⟩ := h.hostStep hidle
    exact ⟨t, ht, hstep.inv⟩
  · obtain ⟨t, ht, hinv, -⟩ := h.microstep hidle
    exact ⟨t, ht, hinv⟩

/-- Settles O51: at power-on every element has its rest value. -/
theorem resetHasTheInvariant : Obligations.ResetHasTheInvariant :=
  .of_parts ⟨fun p => .of_nil (by cases p <;> rfl), rfl, rfl⟩
    ⟨nofun, fun _ => ⟨rfl, rfl⟩, ⟨nofun, nofun⟩, fun hd => hd.elim nofun nofun, nofun, fun hd => hd.elim nofun nofun⟩
    ⟨rfl, rfl, iff_of_true rfl rfl, nofun, nofun⟩ ⟨Nat.le_refl _, Nat.zero_le _, PrevDc.zero_mem, fun _ => rfl⟩
    ⟨iff_of_false nofun (not_not_intro rfl), nofun, rfl, fun _ hd => hd.elim nofun nofun⟩
    ⟨by decide, Nat.zero_le _, fun h0 => absurd h0 (Nat.not_succ_le_zero 0), Nat.zero_le _⟩
    ⟨fun _ => rfl, fun _ => ⟨Nat.zero_le _, fun _ => rfl⟩, Nat.zero_le _, fun _ => rfl, nofun, nofun,
      fun hop => absurd rfl hop, fun hop => absurd rfl hop, nofun, nofun, nofun, nofun⟩

/-- Settles O52: the step is a micro-step of an operation or a whole one. -/
theorem stepKeepsTheInvariant : Obligations.StepKeepsTheInvariant := by
  intro s t h ht
  obtain ⟨u, hu, hinv⟩ := h.step
  cases ht.symm.trans hu
  exact hinv

/-- Settles O53: what a step reads holds a value, and every loop ends. -/
theorem noStepStops : Obligations.NoStepStops := by
  intro s h
  obtain ⟨t, ht, -⟩ := h.step
  exact ⟨t, ht⟩

/-- Settles O54: the fuel of a loop is more than its steps. -/
theorem everyOperationEnds : Obligations.EveryOperationEnds := by
  intro s t h hidle ht
  obtain ⟨u, hu, hstep⟩ := h.hostStep hidle
  cases ht.symm.trans hu
  exact hstep.idle

/-- Settles O55: the engine's position is the decoder's, which the run check keeps within the block. -/
theorem noRunOutOfBounds : Obligations.NoRunOutOfBounds := by
  intro s t h ht hs
  by_cases hidle : s.running = .idle
  · obtain ⟨u, hu, hstep⟩ := h.hostStep hidle
    cases ht.symm.trans hu
    exact hstep.cause hs
  · exact h.microstep_cause hidle ht hs

/-! ## The recorded error -/

/-- What stands while a frame has failed (10_state.md R70; 60_exceptions.md R712). -/
structure FailureStands (s t : State) : Prop where
  dstate : t.dstate = s.dstate
  status : t.status = s.status
  trk : t.trk = s.trk
  bitPos : t.bitPos = s.bitPos
  vpos : t.vpos = s.vpos

/-- A command on a failed frame that begins no other one leaves the failure as it is. -/
theorem exec_command_of_failed {s t : State} (hidle : s.running = .idle) (hfailed : s.dstate = .failed) {i : Instr}
    (hi : contextOf i = .command) (hno : ¬ Instr.BeginsFrame i) (ht : exec i s = .next t) : FailureStands s t := by
  have hanswer {r : Option Reply} : FailureStands s { s with reply := r } := ⟨rfl, rfl, rfl, rfl, rfl⟩
  have hrefuse (h : refuse s = .next t) : FailureStands s t := by
    cases h
    exact hanswer
  have hrecorded {u : State} (hu : FailureStands s u) (h : returnRecorded u = .next t) : FailureStands s t := by
    unfold returnRecorded at h
    split at h
    · cases h
      exact ⟨hu.dstate, hu.status, hu.trk, hu.bitPos, hu.vpos⟩
    · cases h
  cases i with
  | configure width height v merge u => exact absurd (.inl ⟨width, height, v, merge, u, rfl⟩) hno
  | loadFrame bytes => exact absurd (.inr ⟨bytes, rfl⟩) hno
  | setQuant table =>
    rw [exec_setQuant_state ht]
    exact ⟨rfl, rfl, rfl, rfl, rfl⟩
  | readRgb len offset stride =>
    rw [exec_readRgb_state ht]
    exact ⟨rfl, rfl, rfl, rfl, rfl⟩
  | readYcbcr420 len space =>
    rw [exec_readYcbcr420_state ht]
    exact ⟨rfl, rfl, rfl, rfl, rfl⟩
  | queryStatus =>
    cases (exec_queryStatus_of_idle hidle).symm.trans ht
    exact hanswer
  | readCode =>
    rw [exec_readCode_of_idle hidle, if_neg (show ¬ s.dstate = .done by simp [hfailed]), if_pos hfailed] at ht
    split at ht
    · exact hrefuse ht
    · exact hrecorded (u := { s with frameMode := .codes }) ⟨rfl, rfl, rfl, rfl, rfl⟩ ht
  | decodeFrame =>
    rw [exec_decodeFrame_of_idle hidle, if_pos hfailed] at ht
    split at ht
    · exact hrefuse ht
    · obtain ⟨y, cb, cr, heq⟩ := zeroFillFrom_withPlanes 0 .cr { s with frameMode := .pixels }
      rw [heq] at ht
      exact hrecorded (u := { s with frameMode := .pixels }.withPlanes y cb cr) ⟨rfl, rfl, rfl, rfl, rfl⟩ ht
  | _ => exact nomatch hi

/-- Settles O56: no operation runs on a failed frame, and every command but those two leaves the failure as it is. -/
theorem errorsAreSticky : Obligations.ErrorsAreSticky := by
  intro s t h hfailed ht hreq
  have hidle : s.running = .idle := by
    by_contra hrun
    rcases h.consuming hrun with hd | hd <;> rw [hfailed] at hd <;> cases hd
  have hstands : FailureStands s t := by
    rw [step_of_idle hidle, Machine.hostStep] at ht
    cases hin : s.hostIn with
    | nil =>
      simp only [nextRequest, hin] at ht
      cases ht
      exact ⟨rfl, rfl, rfl, rfl, rfl⟩
    | cons request rest =>
      simp only [nextRequest, hin] at ht
      obtain ⟨hno1, hno3⟩ := hreq request rest hin
      cases hdec : decodeCommand request with
      | error e =>
        rw [hdec] at ht
        cases ht
        exact ⟨rfl, rfl, rfl, rfl, rfl⟩
      | ok i =>
        rw [hdec] at ht
        obtain ⟨hi, hbegins⟩ := decodeCommand_command hdec
        obtain ⟨hd, hst, htrk, hb, hv⟩ := exec_command_of_failed (s := { s with hostIn := rest }) hidle hfailed hi
          (fun hb => (hbegins hb).elim hno1 hno3) ht
        exact ⟨hd, hst, htrk, hb, hv⟩
  exact ⟨hstands.dstate.trans hfailed, hstands.status, hstands.trk, hstands.bitPos, hstands.vpos⟩

end Sys2Proof.Machine

/-! PROOFS. The zero-fill of a failed frame, sample by sample (45_reconstruction.md R573; 47_host_interface.md R654;
60_exceptions.md R713). -/

namespace Sys2Proof.Machine

/-! ## The zero-fill -/

/-- A sample is read from its plane alone. -/
theorem planeRead_congr {s t : State} (hcfg : t.cfg = s.cfg) {p : PlaneId} (hp : t.plane p = s.plane p) (x y : Nat) :
    planeRead t p x y = planeRead s p x y := by
  simp only [planeRead, hcfg, hp]

theorem index_roleOfIndex {k : Nat} (h : k < 6) : (roleOfIndex k).index = k := by
  interval_cases k <;> rfl

/-- A block write leaves the configuration. -/
@[simp] theorem writeBlock_cfg (i : Nat) (r : Role) (f : Nat → Sample) (s : State) : (writeBlock i r f s).cfg = s.cfg :=
  setPlane_cfg ..

/-- The block written has the sample's number, or the sample stands (45_reconstruction.md R569). -/
theorem planeRead_zeroBlock {i : Nat} {r : Role} {s : State} (hplane : ∀ p, PlaneInv s p) (hi : i < s.cfg.mbCount)
    {p : PlaneId} {x y : Nat} (hxy : p.Inside s.cfg x y) :
    planeRead (zeroBlock i r s) p x y =
      if blockNumber s.cfg p x y = 6 * i + r.index then zeroSample s.cfg.variant else planeRead s p x y := by
  rw [zeroBlock, planeRead_writeBlock _ (hplane r.plane).wf hi hxy]
  exact if_congr (inBlock_iff hxy i r) rfl rfl

/-- Zero-filling `n` blocks from block `k` on, in decode order (45_reconstruction.md R573). -/
def zeroFillBlocks (k n : Nat) (s : State) : State :=
  (List.range n).foldl (fun s j => zeroBlock ((k + j) / 6) (roleOfIndex ((k + j) % 6)) s) s

theorem zeroFillFrom_eq (i : Nat) (r : Role) (s : State) :
    zeroFillFrom i r s = zeroFillBlocks (6 * i + r.index) (6 * s.cfg.mbCount - (6 * i + r.index)) s := rfl

theorem zeroFillBlocks_succ (k n : Nat) (s : State) :
    zeroFillBlocks k (n + 1) s = zeroBlock ((k + n) / 6) (roleOfIndex ((k + n) % 6)) (zeroFillBlocks k n s) := by
  rw [zeroFillBlocks, List.range_succ, List.foldl_append]
  rfl

/-- The blocks filled are 0, the others as they were (45_reconstruction.md R573). -/
theorem planeRead_zeroFillBlocks {s : State} (hplane : ∀ p, PlaneInv s p) (k n : Nat) (hn : k + n ≤ 6 * s.cfg.mbCount) :
    (zeroFillBlocks k n s).cfg = s.cfg ∧ (∀ p, PlaneInv (zeroFillBlocks k n s) p) ∧
    ∀ p x y, p.Inside s.cfg x y → planeRead (zeroFillBlocks k n s) p x y =
      if k ≤ blockNumber s.cfg p x y ∧ blockNumber s.cfg p x y < k + n then zeroSample s.cfg.variant
      else planeRead s p x y := by
  induction n with
  | zero => exact ⟨rfl, hplane, fun p x y _ => (if_neg (by omega)).symm⟩
  | succ n ih =>
    obtain ⟨hcfg, hinv, hread⟩ := ih (by omega)
    rw [zeroFillBlocks_succ]
    refine ⟨(writeBlock_cfg ..).trans hcfg, PlaneInv.writeBlock hinv fun _ => .inl rfl, fun p x y hxy => ?_⟩
    have hi : (k + n) / 6 < s.cfg.mbCount := by omega
    have hnumber : 6 * ((k + n) / 6) + (roleOfIndex ((k + n) % 6)).index = k + n := by
      rw [index_roleOfIndex (by omega)]
      omega
    rw [planeRead_zeroBlock hinv (by rwa [hcfg]) (by rwa [hcfg]), hcfg, hnumber, hread p x y hxy]
    split_ifs <;> first | rfl | omega

/-- After the zero-fill every block from the first one filled is 0, every earlier one as it was (45_reconstruction.md
R573). -/
theorem planeRead_zeroFillFrom {s : State} (hplane : ∀ p, PlaneInv s p) (i : Nat) (r : Role) {p : PlaneId} {x y : Nat}
    (hxy : p.Inside s.cfg x y) :
    planeRead (zeroFillFrom i r s) p x y =
      if blockNumber s.cfg p x y < 6 * i + r.index then planeRead s p x y else zeroSample s.cfg.variant := by
  have hlt := blockNumber_lt hxy
  rw [zeroFillFrom_eq]
  by_cases hk : 6 * i + r.index ≤ 6 * s.cfg.mbCount
  · obtain ⟨-, -, hread⟩ := planeRead_zeroFillBlocks hplane (6 * i + r.index) (6 * s.cfg.mbCount - (6 * i + r.index))
      (by omega)
    rw [hread p x y hxy]
    split_ifs <;> first | rfl | omega
  · rw [Nat.sub_eq_zero_of_le (by omega), if_pos (by omega)]
    rfl

/-! ## The obligations -/

/-- An error of DECODE_FRAME zero-fills from the block of the tracker (47_host_interface.md R654). -/
theorem planeRead_fail {s : State} (hrun : s.running = .decodeFrame) (e : FrameError) (p : PlaneId) (x y : Nat) :
    planeRead (fail e s) p x y = planeRead (zeroFillFrom s.trk.mbIndex s.trk.role s) p x y := by
  simp only [fail, hrun]
  exact planeRead_congr (by simp) (by cases p <;> simp [State.plane]) x y

/-- A codeword that leaves the frame failed is an error of the decoder. -/
theorem CodewordStep.fails_of_dstate {s t : State} {len : Nat} (hs : CodewordStep s len t) (hactive : s.dstate = .active)
    (hfailed : t.dstate = .failed) : ∃ e b v, t = fail e { s with bitPos := b, vpos := v } := by
  have hemit {start : Nat} {c : Code} {u : State} (hu : u.dstate = .active) : (emit start c u).dstate ≠ .failed := by
    simp only [emit, hu]
    split_ifs <;> decide
  cases hs with
  | fails e b v => exact ⟨e, b, v, rfl⟩
  | dc => exact absurd hfailed (hemit hactive)
  | run => exact absurd hfailed (hemit hactive)
  | eob => exact absurd hfailed (hemit hactive)

/-- Settles O32: a step that fails is an error of the decoder, which zero-fills from the tracker's block. -/
theorem errorZeroFillsTheRest : Obligations.ErrorZeroFillsTheRest := by
  intro s t h hop hwait ht hfailed p x y hxy
  have hrun : s.running ≠ .idle := by simp [hop]
  obtain ⟨u, len, -, hu, hstep⟩ := h.decode hrun hwait
  cases ht.symm.trans hu
  obtain ⟨e, b, v, rfl⟩ := hstep.fails_of_dstate (h.reading hrun hwait) hfailed
  rw [planeRead_fail (by exact hop)]
  exact planeRead_zeroFillFrom (s := { s with bitPos := b, vpos := v })
    (fun p => (h.plane p).congr rfl (by cases p <;> rfl)) _ _ hxy

/-- Settles O41: the zero-fill is from the first block on. -/
theorem decodeFrameAfterBadHeader : Obligations.DecodeFrameAfterBadHeader := by
  intro s h hidle hconf hmode hfailed
  obtain ⟨r, hr⟩ := h.exists_recorded hfailed
  obtain ⟨y, cb, cr, hfill, hexec⟩ := exec_decodeFrame_of_failed hidle hconf hmode hfailed hr
  refine ⟨_, r, hexec, hr, rfl, fun p x y' hxy => ?_⟩
  have hread := planeRead_zeroFillFrom (s := { s with frameMode := .pixels })
    (fun p => (h.plane p).congr rfl (by cases p <;> rfl)) 0 .cr hxy
  rw [hfill, if_neg (by simp [Role.index])] at hread
  rw [← hread]
  exact planeRead_congr rfl (by cases p <;> rfl) x y'

end Sys2Proof.Machine

/-! PROOFS. READ_CODE at the start of a block, and DECODE_FRAME of a frame of DC blocks, step by step
(47_host_interface.md R653, R654; 42_entropy_dc.md R300; 43_entropy_ac.md R360). -/

namespace Sys2Proof.Machine

/-! ## One step that reads -/

/-- The upcoming bits begin with a code that is there. -/
theorem eq_append_of_take {w code : Bits} (h : w.take code.length = code) : w = code ++ w.drop code.length := by
  conv_lhs => rw [← List.take_append_drop code.length w, h]

/-- Where a shared DC is read and its ten bits are there, the step emits the DC (42_entropy_dc.md R300). -/
theorem step_dcShared {s : State} {body : Nat} {q : BitVec 6} {d : BitVec 10} (hctx : context s = .ok .dcShared)
    (hown : ownDc s.params s.fmt = none) (hbody : s.hdr.body = some body) (hq : blockQscale s = some q)
    (hbits : s.bitPos + 10 ≤ s.streamBits) (hpeek : (peek s body window).take 10 = bitsOf d) :
    step s = .next (emit s.bitPos ⟨q, d⟩ { s with bitPos := s.bitPos + 10, vpos := 0 }) := by
  have hword : peek s body window = bitsOf d ++ (peek s body window).drop 10 :=
    eq_append_of_take (code := bitsOf d) hpeek
  have hfound : decodeCodeword .dcShared (peek s body window) = .found (.dcShared d) 10 := by
    rw [hword]
    exact codewordsDecode (.dcShared d) (bitsOf d) _ rfl
  have hfetch : fetchStream s = .ok (.instr (.dcShared d)) := by
    rw [fetchStream_of_context hctx hbody]
    simp only [fetchCodeword, hown, windowOf, fetchDefault, hfound]
  rw [step_of_fetched (context_reading hctx).running hfetch]
  exact (dcSharedCodeword_eq hctx hq).trans (if_neg (by omega))

/-- Where an AC codeword of the mainline is read and the end of block stands there, the step emits it
(43_entropy_ac.md R360). -/
theorem step_acEob {s : State} {body : Nat} (hctx : context s = .ok .ac) (hvlc : s.params.acVlcTable = none)
    (hbody : s.hdr.body = some body) (hbits : s.bitPos + 2 ≤ s.streamBits)
    (hpeek : (peek s body window).take 2 = [b1, b0]) :
    step s = .next (emit s.bitPos eobCode { s with bitPos := s.bitPos + 2 }) := by
  have hword : peek s body window = [b1, b0] ++ (peek s body window).drop 2 :=
    eq_append_of_take (code := [b1, b0]) hpeek
  have hfound : decodeCodeword .ac (peek s body window) = .found .acEob 2 := by
    rw [hword]
    exact codewordsDecode .acEob [b1, b0] _ rfl
  have hfetch : fetchStream s = .ok (.instr .acEob) := by
    rw [fetchStream_of_context hctx hbody]
    simp only [fetchCodeword, hvlc, windowOf, fetchDefault, hfound]
  rw [step_of_fetched (context_reading hctx).running hfetch]
  exact (eobCodeword_eq hctx (.inl rfl)).trans (if_neg (by omega))

/-- At the start of a block of the shared scheme the DC field is read (42_entropy_dc.md R300). -/
theorem State.Inv.context_dcShared {s : State} (h : s.Inv) (hrun : s.running ≠ .idle) (hwait : s.emitted = none)
    (hfirst : s.trk.firstOfBlock = true) (hmode : s.hdr.dcMode = some .shared) : context s = .ok .dcShared := by
  obtain ⟨c, hc⟩ := h.context_ok hrun hwait
  rcases context_cases hc with ⟨-, -, rfl⟩ | ⟨-, hdiff, -⟩ | ⟨hlater, -⟩ | ⟨hlater, -⟩
  · exact hc
  · cases hmode.symm.trans hdiff
  · cases hfirst.symm.trans hlater
  · cases hfirst.symm.trans hlater

/-- Later in a block of the mainline table an AC codeword is read (43_entropy_ac.md R350). -/
theorem State.Inv.context_mainAc {s : State} (h : s.Inv) (hrun : s.running ≠ .idle) (hwait : s.emitted = none)
    (hlater : s.trk.firstOfBlock = false) (htable : s.hdr.acTable = some .main) : context s = .ok .ac := by
  obtain ⟨c, hc⟩ := h.context_ok hrun hwait
  rcases context_cases hc with ⟨hfirst, -⟩ | ⟨hfirst, -⟩ | ⟨-, -, rfl⟩ | ⟨-, htitle, -⟩
  · cases hfirst.symm.trans hlater
  · cases hfirst.symm.trans hlater
  · exact hc
  · cases htable.symm.trans htitle

/-! ## READ_CODE -/

/-- A step that emits a first code, and the step that returns it, are the whole of a READ_CODE (47_host_interface.md
R653). -/
theorem runLoop_firstCode {s t : State} {e : Emitted} (hs : s.running = .readCode) (hstep : step s = .next t)
    (ht : t.running = .readCode) (he : t.emitted = some e) (hfirst : e.first = true) (hactive : t.dstate = .active)
    (n : Nat) :
    runLoop (n + 2) s = .next (finish (.code (e.code.top6 ++ e.code.bottom10) false) t.passBoundary) := by
  have hreturn : step t = .next (finish (.code (e.code.top6 ++ e.code.bottom10) false) t.passBoundary) := by
    rw [step_of_emitted (by simp [ht]) he, consumeCode_codes_boundary ht (by rw [hfirst, Bool.true_or]), hfirst,
      isTerminal_first, if_neg (by simp [hactive])]
  rw [runLoop_succ _ (by simp [hs]), hstep]
  dsimp only
  rw [runLoop_succ _ (by simp [ht]), hreturn]
  exact runLoop_idle _ rfl

/-- Settles O42: the operation is two steps, of which the first emits the DC and the second returns it. -/
theorem readCodeReturnsTheDc : Obligations.ReadCodeReturnsTheDc := by
  intro d q body s h hidle hconf hactive hmode hfirst hdc hown hq hbody hbits hpeek
  have hwait := h.idle hidle
  have hstart := h.startLoop hidle hconf hactive (.inl ⟨rfl, rfl, hmode⟩)
  have hctx := hstart.context_dcShared nofun rfl hfirst hdc
  have hread := step_dcShared hctx hown hbody hq hbits hpeek
  have hcode : isTerminal s.trk.firstOfBlock ⟨q, d⟩ = false := by rw [hfirst]; rfl
  rw [emit_code (by exact hcode)] at hread
  rw [exec_readCode_of_active hidle hconf hactive hmode]
  have hfuel : loopFuel s = 2 * (s.streamBits - s.bitPos) + 1 + 2 := rfl
  have hloop := runLoop_firstCode (e := s.emittedOf ⟨q, d⟩) rfl hread rfl rfl hfirst hactive
    (2 * (s.streamBits - s.bitPos) + 1)
  rw [hfuel, hloop, finish, ← hidle, ← hwait]
  rfl

/-! ## DECODE_FRAME of DC blocks: the walk over the blocks -/

/-- The upcoming bits are those of the stream (20_memory.md R110). -/
theorem take_peek {s : State} {body : Nat} {l : Bits} (hl : l.length ≤ window)
    (hbits : s.bitPos + l.length ≤ s.streamBits)
    (h : ∀ j < l.length, some (streamBit s body (s.bitPos + j)) = l[j]?) :
    (peek s body window).take l.length = l := by
  refine List.ext_getElem? fun j => ?_
  by_cases hj : j < l.length
  · rw [List.getElem?_take_of_lt hj, getElem?_peek (by omega) (by omega), h j hj]
  · rw [List.getElem?_eq_none (by rw [List.length_take]; omega), List.getElem?_eq_none (by omega)]

/-- The tracker at the start of block `k` of a frame whose blocks have two codes (40_mdec_code.md R213, R214). -/
def trackerAt (k : Nat) : Tracker := ⟨k / 6, roleOfIndex (k % 6), true, 0, 2 * k, k, k / 6⟩

theorem next_roleOfIndex {k : Nat} (h : k < 6) : (roleOfIndex k).next = roleOfIndex ((k + 1) % 6) := by
  interval_cases k <;> rfl

theorem roleOfIndex_eq_y4 {k : Nat} (h : k < 6) : roleOfIndex k = .y4 ↔ k = 5 := by
  interval_cases k <;> decide

/-- A block's two codes advance the tracker to the next block (40_mdec_code.md R213, R214). -/
theorem trackerAt_succ (k : Nat) : (trackerAt k).advanceCode.advanceEob = trackerAt (k + 1) := by
  have hlt : k % 6 < 6 := Nat.mod_lt _ (by decide)
  have hrole : (roleOfIndex (k % 6)).next = roleOfIndex ((k + 1) % 6) := by
    rw [next_roleOfIndex hlt]
    congr 1
    omega
  have hmb : (if roleOfIndex (k % 6) = .y4 then k / 6 + 1 else k / 6) = (k + 1) / 6 := by
    by_cases hlast : k % 6 = 5
    · rw [if_pos ((roleOfIndex_eq_y4 hlt).mpr hlast)]
      omega
    · rw [if_neg (mt (roleOfIndex_eq_y4 hlt).mp hlast)]
      omega
  simp only [trackerAt, Tracker.advanceCode, Tracker.advanceEob, hrole, Tracker.mk.injEq, true_and]
  exact ⟨hmb, by omega, hmb⟩

/-- A frame of the shared scheme and the mainline table whose blocks have no AC code. -/
structure DcOnlyFrame (s : State) (body : Nat) (d : Nat → BitVec 10) : Prop where
  dcMode : s.hdr.dcMode = some .shared
  acTable : s.hdr.acTable = some .main
  acVlcTable : s.params.acVlcTable = none
  ownDc : ownDc s.params s.fmt = none
  hasBody : s.hdr.body = some body
  stream : DcOnlyStream s body d

/-- DECODE_FRAME of the frame of `s₀` is in block `k`, with this tracker at this bit; the samples of the earlier blocks
whose DC is 0 are 0. -/
structure DcWalk (s₀ : State) (d : Nat → BitVec 10) (k : Nat) (trk : Tracker) (b : Nat) (s : State) : Prop where
  inv : s.Inv
  stream : StreamFrame s₀ s
  running : s.running = .decodeFrame
  trk : s.trk = trk
  bitPos : s.bitPos = b
  zero : ∀ p x y, p.Inside s₀.cfg x y → blockNumber s₀.cfg p x y < k → d (blockNumber s₀.cfg p x y) = 0#10 →
    planeRead s p x y = zeroSample s₀.cfg.variant

namespace DcWalk

variable {s₀ s t : State} {body k b n : Nat} {d : Nat → BitVec 10} {trk trk' : Tracker}

theorem running_ne (h : DcWalk s₀ d k trk b s) : s.running ≠ .idle := by
  simp [h.running]

/-- A step that leaves the planes alone stays in the block. -/
theorem step (h : DcWalk s₀ d k trk b s) (hstep : Machine.step s = .next t) (hrun : t.running = .decodeFrame)
    (htrk : t.trk = trk') {b' : Nat} (hb : t.bitPos = b') (hplane : ∀ p, t.plane p = s.plane p) :
    DcWalk s₀ d k trk' b' t := by
  have hstream := StreamFrame.of_step h.running_ne hstep
  obtain ⟨u, hu, hinv, -⟩ := h.inv.microstep h.running_ne
  cases hstep.symm.trans hu
  refine ⟨hinv, h.stream.trans hstream, hrun, htrk, hb, fun p x y hxy hk hd => ?_⟩
  rw [planeRead_congr hstream.cfg (hplane p)]
  exact h.zero p x y hxy hk hd

/-- The bits of the stream are those of the frame. -/
theorem streamBit_eq (h : DcWalk s₀ d k trk b s) (i : Nat) : streamBit s body i = streamBit s₀ body i := by
  simp only [streamBit, unitAt, h.stream.inBuf, h.stream.fmt, h.stream.params]

/-- The first step of a block emits its DC (42_entropy_dc.md R300). -/
theorem step_dc (h : DcWalk s₀ d k (trackerAt k) (12 * k) s) (hf : DcOnlyFrame s₀ body d) (hk : k < 6 * s₀.cfg.mbCount)
    (hwait : s.emitted = none) :
    ∃ q t e, Machine.step s = .next t ∧ DcWalk s₀ d k (trackerAt k).advanceCode (12 * k + 10) t ∧
      t.emitted = some e ∧ e.first = true ∧ e.code = ⟨q, d k⟩ ∧ t.dstate = .active := by
  obtain ⟨hlen, hcode⟩ := hf.stream
  have hfirst : s.trk.firstOfBlock = true := by rw [h.trk]; rfl
  have hactive := h.inv.reading h.running_ne hwait
  have hctx := h.inv.context_dcShared h.running_ne hwait hfirst (by rw [h.stream.hdr]; exact hf.dcMode)
  have hbits : s.bitPos + (bitsOf (d k)).length ≤ s.streamBits := by
    rw [h.bitPos, h.stream.streamBits, length_bitsOf]
    omega
  have hpeek : (peek s body window).take (bitsOf (d k)).length = bitsOf (d k) := by
    refine take_peek (by rw [length_bitsOf]; decide) hbits fun j hj => ?_
    rw [length_bitsOf] at hj
    rw [h.streamBit_eq, h.bitPos, hcode k j hk (by omega), List.getElem?_append_left (by rwa [length_bitsOf])]
  rw [length_bitsOf] at hbits hpeek
  have hq : blockQscale s ≠ none := by
    obtain ⟨-, hluma, hchroma, -⟩ := h.inv.header (.inl hactive)
    unfold blockQscale
    split
    · exact hluma
    · exact hchroma
  obtain ⟨q, hq⟩ := Option.ne_none_iff_exists'.mp hq
  have hread := step_dcShared hctx (by rw [h.stream.params, h.stream.fmt]; exact hf.ownDc)
    (by rw [h.stream.hdr]; exact hf.hasBody) hq hbits hpeek
  rw [emit_code (by exact hfirst ▸ isTerminal_first _)] at hread
  exact ⟨q, _, _, hread, h.step hread h.running (congrArg Tracker.advanceCode h.trk)
    (congrArg (· + 10) h.bitPos) fun p => by cases p <;> rfl, rfl, hfirst, rfl, hactive⟩

/-- The second step starts the block in the engine; a DC of 0 is no coefficient (45_reconstruction.md R556, R557). -/
theorem step_start (h : DcWalk s₀ d k trk b s) {e : Emitted} {q : BitVec 6} (he : s.emitted = some e)
    (hfirst : e.first = true) (hcode : e.code = ⟨q, d k⟩) (hactive : s.dstate = .active) :
    ∃ t, Machine.step s = .next t ∧ DcWalk s₀ d k trk b t ∧ t.emitted = none ∧ t.dstate = .active ∧
      (d k = 0#10 → t.nzCount = 0) := by
  have hstep : Machine.step s = .next (reconDc (Code.passed ⟨q, d k⟩) s.passBoundary) := by
    rw [step_of_emitted h.running_ne he, consumeCode_pixels_boundary h.running (by rw [hfirst, Bool.true_or]),
      reconstruct, if_pos hfirst, hcode, continueDecode_of_active]
    rw [reconDc_passed]
    exact hactive
  rw [reconDc_passed] at hstep
  exact ⟨_, hstep, h.step hstep h.running h.trk h.bitPos fun p => by cases p <;> rfl, rfl, hactive,
    fun hd => if_pos hd⟩

/-- The third step emits the end of block (43_entropy_ac.md R360). -/
theorem step_eob (h : DcWalk s₀ d k (trackerAt k).advanceCode (12 * k + 10) s) (hf : DcOnlyFrame s₀ body d)
    (hk : k < 6 * s₀.cfg.mbCount) (hwait : s.emitted = none) :
    ∃ t e, Machine.step s = .next t ∧ DcWalk s₀ d k (trackerAt (k + 1)) (12 * (k + 1)) t ∧
      t.emitted = some e ∧ e.first = false ∧ e.code = eobCode ∧ e.mbIndex = k / 6 ∧ e.role = roleOfIndex (k % 6) ∧
      t.dstate = (if (k + 1) / 6 = s₀.cfg.mbCount then .done else .active) ∧ t.nzCount = s.nzCount := by
  obtain ⟨hlen, hcode⟩ := hf.stream
  have hlater : s.trk.firstOfBlock = false := by rw [h.trk]; rfl
  have hactive := h.inv.reading h.running_ne hwait
  have hctx := h.inv.context_mainAc h.running_ne hwait hlater (by rw [h.stream.hdr]; exact hf.acTable)
  have hbits : s.bitPos + 2 ≤ s.streamBits := by
    rw [h.bitPos, h.stream.streamBits]
    omega
  have hpeek : (peek s body window).take 2 = [b1, b0] := by
    refine take_peek (l := [b1, b0]) (by decide) hbits fun j hj => ?_
    have hj2 : j < 2 := hj
    have hbit := hcode k (10 + j) hk (by omega)
    rw [List.getElem?_append_right (by rw [length_bitsOf]; omega), length_bitsOf, Nat.add_sub_cancel_left] at hbit
    rw [h.streamBit_eq, h.bitPos, Nat.add_assoc, hbit]
  have hread := step_acEob hctx (by rw [h.stream.params]; exact hf.acVlcTable) (by rw [h.stream.hdr]; exact hf.hasBody)
    hbits hpeek
  have hterm : isTerminal s.trk.firstOfBlock eobCode = true := by rw [hlater]; rfl
  rw [emit_eob (by exact hterm)] at hread
  have htrk : s.trk.advanceEob = trackerAt (k + 1) := by rw [h.trk, trackerAt_succ]
  refine ⟨_, _, hread, h.step hread h.running htrk ?_ fun p => by cases p <;> rfl, rfl, hlater, rfl, ?_, ?_, ?_, rfl⟩
  · show s.bitPos + 2 = 12 * (k + 1)
    rw [h.bitPos]
    omega
  · show s.trk.mbIndex = k / 6
    rw [h.trk]
    rfl
  · show s.trk.role = roleOfIndex (k % 6)
    rw [h.trk]
    rfl
  · show (if s.trk.advanceEob.mbIndex = s.cfg.mbCount then DState.done else s.dstate) = _
    rw [htrk, hactive, h.stream.cfg]
    rfl

/-- The fourth step writes the block: its samples are 0 if it has no coefficient (45_reconstruction.md R562). -/
theorem step_write (h : DcWalk s₀ d k trk b s) {e : Emitted} (he : s.emitted = some e) (hlater : e.first = false)
    (hcode : e.code = eobCode) (hmb : e.mbIndex = k / 6) (hrole : e.role = roleOfIndex (k % 6))
    (hnz : d k = 0#10 → s.nzCount = 0) :
    ∃ u, Machine.step s = .next (continueDecode u) ∧
      (∃ y cb cr, u = s.passBoundary.withPlanes y cb cr) ∧
      ∀ p x y, p.Inside s₀.cfg x y → blockNumber s₀.cfg p x y < k + 1 → d (blockNumber s₀.cfg p x y) = 0#10 →
        planeRead u p x y = zeroSample s₀.cfg.variant := by
  have hstep : Machine.step s = .next (continueDecode (writeBlock e.mbIndex e.role
      (fun k => blockSample s (Fin.ofNat 64 k)) s.passBoundary)) := by
    rw [step_of_emitted h.running_ne he, hcode, ← exec_mdecEob_later he hlater]
    exact exec_mdecEob_pixels h.inv h.running he hlater
  refine ⟨_, hstep, writeBlock_withPlanes .., fun p x y hxy hk hd => ?_⟩
  have hcfg := h.stream.cfg
  have hinside : p.Inside s.passBoundary.cfg x y := by
    rw [show s.passBoundary.cfg = s₀.cfg from hcfg]
    exact hxy
  have hpassed : planeRead s.passBoundary p x y = planeRead s p x y := planeRead_congr rfl (by cases p <;> rfl) x y
  have hblock := inBlock_iff hxy e.mbIndex e.role
  have hnumber : 6 * e.mbIndex + e.role.index = k := by
    rw [hmb, hrole, index_roleOfIndex (Nat.mod_lt _ (by decide))]
    omega
  rw [planeRead_writeBlock (s := s.passBoundary) _ (h.inv.plane e.role.plane).wf (h.inv.emitted e he).inFrame hinside, hpassed,
    show s.passBoundary.cfg = s₀.cfg from hcfg]
  split
  case isTrue hin =>
    have hkth : blockNumber s₀.cfg p x y = k := (hblock.mp hin).trans hnumber
    rw [hkth] at hd
    rw [blockSample, if_pos (hnz hd), hcfg]
  case isFalse hout =>
    have hne : blockNumber s₀.cfg p x y ≠ k := fun h => hout (hblock.mpr (h.trans hnumber.symm))
    exact h.zero p x y hxy (by omega) hd

/-- What DECODE_FRAME of such a frame leaves (47_host_interface.md R654). -/
structure Finished (s₀ : State) (d : Nat → BitVec 10) (t : State) : Prop where
  reply : t.reply = some .ok
  idle : t.running = .idle
  done : t.dstate = .done
  bitPos : t.bitPos = 72 * s₀.cfg.mbCount
  trk : t.trk = trackerAt (6 * s₀.cfg.mbCount)
  zero : ∀ p x y, p.Inside s₀.cfg x y → d (blockNumber s₀.cfg p x y) = 0#10 →
    planeRead t p x y = zeroSample s₀.cfg.variant

end DcWalk

/-- The run goes on from the next state. -/
theorem OperationRun.tail {n : Nat} {s t u : State} (h : OperationRun n s t) (hrun : s.running ≠ .idle)
    (hstep : Machine.step s = .next u) : ∃ m, OperationRun m u t := by
  cases h with
  | ended hidle => exact absurd hidle hrun
  | step _ hstep' hrest =>
    cases hstep.symm.trans hstep'
    exact ⟨_, hrest⟩

/-- A run that has ended is at its end. -/
theorem OperationRun.eq_of_idle {n : Nat} {s t : State} (h : OperationRun n s t) (hidle : s.running = .idle) : t = s := by
  cases h with
  | ended => rfl
  | step hrun => exact absurd hidle hrun

namespace DcWalk

variable {s₀ s t : State} {body k n : Nat} {d : Nat → BitVec 10}

/-- The four steps of a block lead to the next block, or after the last one to the end of the operation. -/
theorem block (h : DcWalk s₀ d k (trackerAt k) (12 * k) s) (hf : DcOnlyFrame s₀ body d) (hk : k < 6 * s₀.cfg.mbCount)
    (hwait : s.emitted = none) (hops : OperationRun n s t) :
    (k + 1 = 6 * s₀.cfg.mbCount → Finished s₀ d t) ∧
    (k + 1 < 6 * s₀.cfg.mbCount → ∃ m u, DcWalk s₀ d (k + 1) (trackerAt (k + 1)) (12 * (k + 1)) u ∧
      u.emitted = none ∧ OperationRun m u t) := by
  obtain ⟨q, s₁, e₁, hstep₁, h₁, he₁, hfirst, hcode₁, hactive₁⟩ := h.step_dc hf hk hwait
  obtain ⟨s₂, hstep₂, h₂, hwait₂, -, hnz⟩ := h₁.step_start he₁ hfirst hcode₁ hactive₁
  obtain ⟨s₃, e₃, hstep₃, h₃, he₃, hlater, hcode₃, hmb, hrole, hdstate, hcount⟩ := h₂.step_eob hf hk hwait₂
  obtain ⟨u, hstep₄, ⟨y, cb, cr, rfl⟩, hzero⟩ :=
    h₃.step_write he₃ hlater hcode₃ hmb hrole fun hd => hcount.trans (hnz hd)
  obtain ⟨_, hops₁⟩ := hops.tail h.running_ne hstep₁
  obtain ⟨_, hops₂⟩ := hops₁.tail h₁.running_ne hstep₂
  obtain ⟨_, hops₃⟩ := hops₂.tail h₂.running_ne hstep₃
  obtain ⟨m, hops₄⟩ := hops₃.tail h₃.running_ne hstep₄
  constructor
  · intro hlast
    have hdone : s₃.dstate = .done := by rw [hdstate, if_pos (by omega)]
    have hnot : ¬ s₃.dstate = .active := by simp [hdone]
    rw [continueDecode, if_neg (by exact hnot), endFrame_eq] at hops₄
    rw [hops₄.eq_of_idle rfl]
    refine ⟨rfl, rfl, hdone, ?_, ?_, fun p x y hxy hd => ?_⟩
    · exact h₃.bitPos.trans (by omega)
    · exact h₃.trk.trans (by rw [hlast])
    · have hlt := blockNumber_lt hxy
      rw [← hzero p x y hxy (by omega) hd]
      exact planeRead_congr rfl (by cases p <;> rfl) x y
  · intro hmore
    have hactive : s₃.dstate = .active := by rw [hdstate, if_neg (by omega)]
    rw [continueDecode_of_active (by exact hactive)] at hstep₄ hops₄
    obtain ⟨v, hv, hinv, -⟩ := h₃.inv.microstep h₃.running_ne
    cases hstep₄.symm.trans hv
    exact ⟨m, _, ⟨hinv, h₃.stream.trans (.of_step h₃.running_ne hstep₄), h₃.running, h₃.trk, h₃.bitPos, hzero⟩, rfl,
      hops₄⟩

/-- The walk from block `k` on ends as it should, by the blocks that are left. -/
theorem finishes (hf : DcOnlyFrame s₀ body d) {left : Nat} (hleft : k + left + 1 = 6 * s₀.cfg.mbCount)
    (h : DcWalk s₀ d k (trackerAt k) (12 * k) s) (hwait : s.emitted = none) (hops : OperationRun n s t) :
    Finished s₀ d t := by
  induction left generalizing k s n with
  | zero => exact (h.block hf (by omega) hwait hops).1 (by omega)
  | succ left ih =>
    obtain ⟨m, u, hu, hwait', hops'⟩ := (h.block hf (by omega) hwait hops).2 (by omega)
    exact ih (by omega) hu hwait' hops'

end DcWalk

/-- Settles O43: the loop walks over the blocks, four steps each. -/
theorem decodeFrameOfDcOnlyBlocks : Obligations.DecodeFrameOfDcOnlyBlocks := by
  intro s body d h hidle hconf hactive hmode hbit hdc hac hvlc hown hbody hstream
  have hop : Running.decodeFrame = .readCode ∧ FrameMode.pixels = .codes ∧ s.frameMode ≠ .pixels ∨
      Running.decodeFrame = .decodeFrame ∧ FrameMode.pixels = .pixels ∧ s.frameMode = .none := .inr ⟨rfl, rfl, hmode⟩
  have hstart := h.startLoop hidle hconf hactive hop
  have hwait := h.idle hidle
  rw [startLoop_of_idle hwait] at hstart
  obtain ⟨n, t, hloop, hops, -, -⟩ := h.runLoop_startLoop hidle hconf hactive hop
  obtain ⟨hw, -, hh, -⟩ := h.size hconf
  have hcount : 0 < s.cfg.mbCount := Cfg.mbCount_pos hw hh
  have hwalk : DcWalk { s with frameMode := .pixels, running := .decodeFrame } d 0 (trackerAt 0) (12 * 0)
      { s with frameMode := .pixels, running := .decodeFrame } :=
    ⟨hstart, .refl _, rfl, h.fresh hactive hmode, hbit, fun _ _ _ _ hlt => absurd hlt (Nat.not_lt_zero _)⟩
  have hf : DcOnlyFrame { s with frameMode := .pixels, running := .decodeFrame } body d :=
    ⟨hdc, hac, hvlc, hown, hbody, hstream⟩
  have hend := hwalk.finishes (left := 6 * s.cfg.mbCount - 1) hf
    (by show 0 + (6 * s.cfg.mbCount - 1) + 1 = 6 * s.cfg.mbCount; omega) hwait hops
  refine ⟨t, (exec_decodeFrame_of_active hidle hconf hactive hmode).trans hloop, hend.reply, hend.idle, hend.done,
    hend.bitPos, hend.trk.trans ?_, hend.zero⟩
  have hdiv : 6 * s.cfg.mbCount / 6 = s.cfg.mbCount := Nat.mul_div_cancel_left _ (by decide)
  have hmod : 6 * s.cfg.mbCount % 6 = 0 := Nat.mul_mod_right 6 _
  show trackerAt (6 * s.cfg.mbCount) = _
  rw [trackerAt, hdiv, hmod, ← Nat.mul_assoc]
  rfl

end Sys2Proof.Machine

/-! PROOFS. The binary64 operations: what the rounding gives (00_scope.md R11; 45_reconstruction.md R557, R561). -/

namespace Sys2Proof.Machine

/-! ## The bits of a binary64 -/

/-- The units that a magnitude's bits stand for: exponent field 0 is subnormal. -/
def unitsOfBits (b : Nat) : Nat :=
  if b / 2 ^ 52 = 0 then b % 2 ^ 52 else (2 ^ 52 + b % 2 ^ 52) * 2 ^ (b / 2 ^ 52 - 1)

theorem toNat_withSign {neg : Bool} {b : Nat} (hb : b < 2 ^ 63) :
    (withSign neg b).toNat = b + if neg then 2 ^ 63 else 0 := by
  rw [withSign, BitVec.toNat_ofNat]
  cases neg <;> simp <;> omega

/-- The class of a magnitude below infinity with its sign. -/
theorem classOfDouble_withSign (neg : Bool) {b : Nat} (hb : b < 2047 * 2 ^ 52) :
    classOfDouble (withSign neg b) = .finite neg (unitsOfBits b) := by
  have hval := toNat_withSign (neg := neg) (show b < 2 ^ 63 by omega)
  have hexp : ((withSign neg b).extractLsb' 52 11).toNat = b / 2 ^ 52 := by
    rw [BitVec.extractLsb'_toNat, hval, Nat.shiftRight_eq_div_pow]
    cases neg <;> simp <;> omega
  have hfrac : ((withSign neg b).extractLsb' 0 52).toNat = b % 2 ^ 52 := by
    rw [BitVec.extractLsb'_toNat, hval, Nat.shiftRight_zero]
    cases neg <;> simp
    omega
  have hsign : doubleSign (withSign neg b) = neg := by
    rw [doubleSign, BitVec.getLsbD, hval, Nat.testBit_eq_decide_div_mod_eq]
    cases neg <;> simp <;> omega
  have hfinite : ¬ b / 2 ^ 52 = 2047 := by omega
  simp only [classOfDouble, hexp, hfrac, hsign, if_neg hfinite, unitsOfBits, Nat.shiftLeft_eq]
  split <;> rfl

/-! ## The rounding, in whole numbers -/

/-- The weight of the result's last place is `2 ^ (roundScale m k - k)`. -/
def roundScale (m k : Nat) : Int := max ((Nat.log2 m : Int) - 52) ((k : Int) - 1074)

/-- The result in units of its last place. -/
def roundQuotient (m k : Nat) : Nat :=
  if 0 ≤ roundScale m k then roundShift m (roundScale m k).toNat else m <<< (-roundScale m k).toNat

/-- The magnitude's bits of a result of `q` units of weight `2 ^ e`. -/
def bitsOfUnits (q e : Nat) : Nat := if q < 2 ^ 52 then q else ((e + 1) <<< 52) + (q - 2 ^ 52)

/-- The exponent of the last place, in units of `2 ^ -1074`. -/
def roundExponent (m k : Nat) : Nat := (roundScale m k - k + 1074).toNat

theorem roundExponent_eq (m k : Nat) : (roundExponent m k : Int) = roundScale m k - k + 1074 := by
  have : (k : Int) - 1074 ≤ roundScale m k := le_max_right _ _
  rw [roundExponent, Int.toNat_of_nonneg (by omega)]

theorem roundDouble_eq {m : Nat} (hm : m ≠ 0) (neg : Bool) (k : Nat) :
    roundDouble neg m k =
      if bitsOfUnits (roundQuotient m k) (roundExponent m k) < 2047 <<< 52 then
        withSign neg (bitsOfUnits (roundQuotient m k) (roundExponent m k))
      else doubleInfinity neg := by
  have hexp : (roundScale m k - k + 1075).toNat = roundExponent m k + 1 := by
    have := roundExponent_eq m k
    omega
  rw [bitsOfUnits, ← hexp]
  exact if_neg hm

/-- The bits of a result stand for it. -/
theorem unitsOfBits_bitsOfUnits {q e : Nat} (hq : q ≤ 2 ^ 53) (hsub : q < 2 ^ 52 → e = 0) :
    unitsOfBits (bitsOfUnits q e) = q * 2 ^ e := by
  rw [bitsOfUnits]
  by_cases hsmall : q < 2 ^ 52
  · rw [if_pos hsmall, unitsOfBits, if_pos (by omega), Nat.mod_eq_of_lt hsmall, hsub hsmall,
      pow_zero, Nat.mul_one]
  rw [if_neg hsmall, Nat.shiftLeft_eq, unitsOfBits]
  by_cases htop : q = 2 ^ 53
  · have hdiv : ((e + 1) * 2 ^ 52 + (q - 2 ^ 52)) / 2 ^ 52 = e + 2 := by omega
    have hmod : ((e + 1) * 2 ^ 52 + (q - 2 ^ 52)) % 2 ^ 52 = 0 := by omega
    rw [hdiv, hmod, if_neg (by omega), htop, show e + 2 - 1 = e + 1 from rfl, pow_succ]
    ring
  · have hdiv : ((e + 1) * 2 ^ 52 + (q - 2 ^ 52)) / 2 ^ 52 = e + 1 := by omega
    have hmod : ((e + 1) * 2 ^ 52 + (q - 2 ^ 52)) % 2 ^ 52 = q - 2 ^ 52 := by omega
    rw [hdiv, hmod, if_neg (by omega), Nat.add_sub_cancel, Nat.add_sub_cancel' (by omega)]

/-- The bits of a result whose exponent is in range are below infinity's. -/
theorem bitsOfUnits_lt {q e : Nat} (hq : q ≤ 2 ^ 53) (he : e ≤ 2044) : bitsOfUnits q e < 2047 * 2 ^ 52 := by
  rw [bitsOfUnits, Nat.shiftLeft_eq]
  split <;> omega

/-- A number cut to `s` bits less is within half a unit of the last place. -/
theorem roundShift_near (m s : Nat) :
    2 * m ≤ 2 * (roundShift m s * 2 ^ s) + 2 ^ s ∧ 2 * (roundShift m s * 2 ^ s) ≤ 2 * m + 2 ^ s := by
  cases s with
  | zero => simp [roundShift]
  | succ s =>
    have hpow : 2 ^ (s + 1) = 2 * 2 ^ s := by rw [pow_succ, Nat.mul_comm]
    have hsplit := Nat.div_add_mod m (2 ^ (s + 1))
    have hlt := Nat.mod_lt m (Nat.two_pow_pos (s + 1))
    have hup : (m / 2 ^ (s + 1) + 1) * 2 ^ (s + 1) = m / 2 ^ (s + 1) * 2 ^ (s + 1) + 2 ^ (s + 1) := Nat.succ_mul _ _
    rw [Nat.mul_comm] at hsplit
    simp only [roundShift, Nat.add_one_ne_zero, if_false, Nat.add_sub_cancel, Nat.shiftRight_eq_div_pow]
    split
    · rw [hup]
      omega
    · omega

/-- Where the scale is a cut, the quotient is rounded. -/
theorem roundQuotient_of_nonneg {m k : Nat} (h : 0 ≤ roundScale m k) :
    roundQuotient m k = roundShift m (roundScale m k).toNat := if_pos h

/-- Where it is none, the quotient is exact. -/
theorem roundQuotient_of_neg {m k : Nat} (h : roundScale m k < 0) :
    roundQuotient m k = m * 2 ^ (-roundScale m k).toNat := by
  rw [roundQuotient, if_neg (by omega), Nat.shiftLeft_eq]

theorem roundQuotient_le (m k : Nat) : roundQuotient m k ≤ 2 ^ 53 := by
  have hscale : (Nat.log2 m : Int) - 52 ≤ roundScale m k := le_max_left _ _
  have hlt : m < 2 ^ (Nat.log2 m + 1) := Nat.lt_log2_self
  by_cases hs : 0 ≤ roundScale m k
  · rw [roundQuotient_of_nonneg hs]
    have hle : 2 ^ (Nat.log2 m + 1) ≤ 2 ^ (53 + (roundScale m k).toNat) := Nat.pow_le_pow_right (by decide) (by omega)
    rw [pow_add 2 53] at hle
    have hnear := (roundShift_near m (roundScale m k).toNat).2
    have hpos := Nat.two_pow_pos (roundScale m k).toNat
    by_contra hgt
    have := Nat.mul_le_mul_right (2 ^ (roundScale m k).toNat) (Nat.succ_le_of_lt (Nat.lt_of_not_le hgt))
    omega
  · have hexp : Nat.log2 m + 1 + (-roundScale m k).toNat ≤ 53 := by omega
    rw [roundQuotient_of_neg (by omega)]
    calc m * 2 ^ (-roundScale m k).toNat ≤ 2 ^ (Nat.log2 m + 1) * 2 ^ (-roundScale m k).toNat :=
          Nat.mul_le_mul_right _ hlt.le
      _ = 2 ^ (Nat.log2 m + 1 + (-roundScale m k).toNat) := (pow_add ..).symm
      _ ≤ 2 ^ 53 := Nat.pow_le_pow_right (by decide) hexp

/-- The last place of a result that is not subnormal is that of 53 bits. -/
theorem roundScale_of_exponent {m k : Nat} (he : roundExponent m k ≠ 0) :
    roundScale m k = (Nat.log2 m : Int) - 52 := by
  have hexp := roundExponent_eq m k
  rcases max_choice ((Nat.log2 m : Int) - 52) ((k : Int) - 1074) with h | h
  · exact h
  · have : roundScale m k = (k : Int) - 1074 := h
    omega

theorem roundQuotient_ge {m k : Nat} (hm : m ≠ 0) (he : roundExponent m k ≠ 0) : 2 ^ 52 ≤ roundQuotient m k := by
  have hscale := roundScale_of_exponent he
  have hge : 2 ^ Nat.log2 m ≤ m := Nat.log2_self_le hm
  by_cases hs : 0 ≤ roundScale m k
  · rw [roundQuotient_of_nonneg hs]
    have hlog : Nat.log2 m = 52 + (roundScale m k).toNat := by omega
    rw [hlog, pow_add] at hge
    have hnear := (roundShift_near m (roundScale m k).toNat).1
    have hpos := Nat.two_pow_pos (roundScale m k).toNat
    by_contra hlt
    have := Nat.mul_le_mul_right (2 ^ (roundScale m k).toNat) (Nat.le_sub_one_of_lt (Nat.lt_of_not_le hlt))
    omega
  · rw [roundQuotient_of_neg (by omega)]
    calc 2 ^ 52 = 2 ^ Nat.log2 m * 2 ^ (-roundScale m k).toNat := by rw [← pow_add]; congr 1; omega
      _ ≤ m * 2 ^ (-roundScale m k).toNat := Nat.mul_le_mul_right _ hge

/-- A result in range is finite, of its quotient at its last place. -/
theorem classOfDouble_roundDouble {m k : Nat} (hm : m ≠ 0) (hbig : Nat.log2 m < k + 970) (neg : Bool) :
    classOfDouble (roundDouble neg m k) = .finite neg (roundQuotient m k * 2 ^ roundExponent m k) := by
  have hq := roundQuotient_le m k
  have he : roundExponent m k ≤ 2044 := by
    have hexp := roundExponent_eq m k
    by_cases h0 : roundExponent m k = 0
    · omega
    · have := roundScale_of_exponent h0
      omega
  have hbits := bitsOfUnits_lt hq he
  rw [roundDouble_eq hm, if_pos (by rw [Nat.shiftLeft_eq]; exact hbits), classOfDouble_withSign neg hbits,
    unitsOfBits_bitsOfUnits hq fun hlt => by_contra fun h0 => absurd (roundQuotient_ge hm h0) (by omega)]

/-! ## The rounding, in real numbers -/

/-- The result is within half a unit of its last place, and exact where nothing is cut. -/
theorem roundQuotient_near (m k : Nat) :
    |((roundQuotient m k * 2 ^ roundExponent m k : ℕ) : ℝ) / 2 ^ 1074 - m / 2 ^ k| ≤ 2 ^ roundExponent m k / 2 ^ 1075 ∧
    (roundScale m k ≤ 0 → ((roundQuotient m k * 2 ^ roundExponent m k : ℕ) : ℝ) / 2 ^ 1074 = m / 2 ^ k) := by
  have hexp := roundExponent_eq m k
  have h1074 : (2 : ℝ) ^ 1075 = 2 * 2 ^ 1074 := pow_succ' 2 1074
  by_cases hs : 0 ≤ roundScale m k
  · have hpow : (2 : ℝ) ^ roundExponent m k * 2 ^ k = 2 ^ (roundScale m k).toNat * 2 ^ 1074 := by
      rw [← pow_add, ← pow_add]
      congr 1
      omega
    have hq : ((roundQuotient m k * 2 ^ roundExponent m k : ℕ) : ℝ) / 2 ^ 1074 =
        roundQuotient m k * 2 ^ (roundScale m k).toNat / 2 ^ k := by
      rw [div_eq_div_iff (by positivity) (by positivity)]
      push_cast
      rw [mul_assoc, hpow, mul_assoc]
    have hw : (2 : ℝ) ^ roundExponent m k / 2 ^ 1075 = 2 ^ (roundScale m k).toNat / 2 / 2 ^ k := by
      rw [div_div, div_eq_div_iff (by positivity) (by positivity), h1074]
      generalize (2 : ℝ) ^ 1074 = one at hpow ⊢
      linear_combination 2 * hpow
    obtain ⟨hlow, hhigh⟩ := roundShift_near m (roundScale m k).toNat
    rw [← roundQuotient_of_nonneg hs] at hlow hhigh
    have hlow' : 2 * (m : ℝ) ≤ 2 * (roundQuotient m k * 2 ^ (roundScale m k).toNat) + 2 ^ (roundScale m k).toNat := by
      exact_mod_cast hlow
    have hhigh' : 2 * (roundQuotient m k * 2 ^ (roundScale m k).toNat) ≤ 2 * (m : ℝ) + 2 ^ (roundScale m k).toNat := by
      exact_mod_cast hhigh
    refine ⟨?_, fun h0 => ?_⟩
    · rw [hq, hw, ← sub_div, abs_div, abs_of_pos (show (0 : ℝ) < 2 ^ k by positivity)]
      refine div_le_div_of_nonneg_right (abs_le.mpr ⟨?_, ?_⟩) (by positivity)
      · linarith
      · linarith
    · have hzero : (roundScale m k).toNat = 0 := by omega
      rw [hzero] at hlow hhigh
      have : roundQuotient m k = m := by omega
      rw [hq, hzero, this, pow_zero, mul_one]
  · have hexact : ((roundQuotient m k * 2 ^ roundExponent m k : ℕ) : ℝ) / 2 ^ 1074 = m / 2 ^ k := by
      have hpow : (2 : ℝ) ^ (-roundScale m k).toNat * 2 ^ roundExponent m k * 2 ^ k = 2 ^ 1074 := by
        rw [← pow_add, ← pow_add]
        congr 1
        omega
      rw [roundQuotient_of_neg (by omega), div_eq_div_iff (by positivity) (by positivity), ← hpow]
      push_cast
      ring
    refine ⟨?_, fun _ => hexact⟩
    rw [hexact, sub_self, abs_zero]
    positivity

/-- Half a unit of the last place is small: in proportion to the value, or half the least subnormal. -/
theorem roundExponent_le {m k : Nat} (hm : m ≠ 0) :
    (2 : ℝ) ^ roundExponent m k / 2 ^ 1075 ≤ m / 2 ^ k / 2 ^ 53 + 1 / 2 ^ 1075 := by
  have hvalue : (0 : ℝ) ≤ m / 2 ^ k / 2 ^ 53 := by positivity
  by_cases he : roundExponent m k = 0
  · rw [he, pow_zero]
    exact le_add_of_nonneg_left hvalue
  have hexp := roundExponent_eq m k
  have hscale := roundScale_of_exponent he
  have hge : (2 : ℝ) ^ Nat.log2 m ≤ m := by exact_mod_cast Nat.log2_self_le hm
  have hpow : (2 : ℝ) ^ roundExponent m k * (2 ^ k * 2 ^ 53) = 2 ^ Nat.log2 m * 2 ^ 1075 := by
    rw [← pow_add, ← pow_add, ← pow_add]
    congr 1
    omega
  have hle : (2 : ℝ) ^ roundExponent m k / 2 ^ 1075 ≤ m / 2 ^ k / 2 ^ 53 := by
    rw [div_div, div_le_div_iff₀ (by positivity) (by positivity), hpow]
    exact mul_le_mul_of_nonneg_right hge (by positivity)
  exact hle.trans (le_add_of_nonneg_right (by positivity))

/-! ## Values -/

/-- A binary64 is finite and stands for a real number. -/
def IsValue (d : Double) (x : ℝ) : Prop :=
  ∃ neg units, classOfDouble d = .finite neg units ∧ (signedUnits neg units : ℝ) / 2 ^ 1074 = x

/-- The sign as a factor. -/
def signFactor (neg : Bool) : ℝ := if neg then -1 else 1

theorem signedUnits_eq (neg : Bool) (u : Nat) : (signedUnits neg u : ℝ) = signFactor neg * u := by
  cases neg <;> simp [signedUnits, signFactor]

theorem abs_signFactor (neg : Bool) : |signFactor neg| = 1 := by
  cases neg <;> simp [signFactor]

theorem isValue_withSign_zero (neg : Bool) : IsValue (withSign neg 0) 0 :=
  ⟨neg, _, classOfDouble_withSign neg (by decide), by cases neg <;> simp [unitsOfBits, signedUnits]⟩

/-- The rounding is within 2^-53 of the value and half the least subnormal, and exact where nothing is cut. -/
theorem isValue_roundDouble (neg : Bool) {m k : Nat} (hbig : m < 2 ^ (k + 970)) :
    ∃ x, IsValue (roundDouble neg m k) x ∧ |x - signFactor neg * (m / 2 ^ k)| ≤ m / 2 ^ k / 2 ^ 53 + 1 / 2 ^ 1075 ∧
      (m < 2 ^ 53 → k ≤ 1074 → x = signFactor neg * (m / 2 ^ k)) := by
  by_cases hm : m = 0
  · subst hm
    refine ⟨0, isValue_withSign_zero neg, ?_, fun _ _ => by simp⟩
    simp only [Nat.cast_zero, zero_div, mul_zero, sub_zero, abs_zero, zero_add]
    positivity
  obtain ⟨hnear, hexact⟩ := roundQuotient_near m k
  refine ⟨_, ⟨neg, _, classOfDouble_roundDouble hm ((Nat.log2_lt hm).mpr hbig) neg, rfl⟩, ?_, fun hsmall hk => ?_⟩
  · rw [signedUnits_eq, mul_div_assoc, ← mul_sub, abs_mul, abs_signFactor, one_mul]
    exact hnear.trans (roundExponent_le hm)
  · have hlog : Nat.log2 m < 53 := (Nat.log2_lt hm).mpr hsmall
    rw [signedUnits_eq, mul_div_assoc, hexact (max_le (by omega) (by omega))]

/-- The binary64 nearest to a fraction. -/
theorem isValue_doubleOfScaled {n : Int} {k : Nat} (hbig : n.natAbs < 2 ^ (k + 970)) :
    ∃ x, IsValue (doubleOfScaled n k) x ∧ |x - n / 2 ^ k| ≤ |(n : ℝ) / 2 ^ k| / 2 ^ 53 + 1 / 2 ^ 1075 ∧
      (n.natAbs < 2 ^ 53 → k ≤ 1074 → x = n / 2 ^ k) := by
  have hvalue : signFactor (decide (n < 0)) * ((n.natAbs : ℝ) / 2 ^ k) = n / 2 ^ k := by
    rw [← mul_div_assoc]
    congr 1
    rw [Nat.cast_natAbs]
    by_cases hn : n < 0
    · rw [abs_of_neg hn]
      simp [signFactor, hn]
    · rw [abs_of_nonneg (not_lt.mp hn)]
      simp [signFactor, hn]
  have habs : |(n : ℝ) / 2 ^ k| = n.natAbs / 2 ^ k := by
    rw [abs_div, abs_of_pos (show (0 : ℝ) < 2 ^ k by positivity), Nat.cast_natAbs, Int.cast_abs]
  obtain ⟨x, hx, hnear, hexact⟩ := isValue_roundDouble (decide (n < 0)) hbig
  rw [hvalue] at hnear hexact
  exact ⟨x, hx, habs ▸ hnear, hexact⟩

theorem lt_two_pow_mono {m a b : Nat} (h : m < 2 ^ a) (hab : a ≤ b) : m < 2 ^ b :=
  h.trans_le (Nat.pow_le_pow_right (by decide) hab)

/-- An integer of 53 bits is a binary64. -/
theorem isValue_doubleOfInt {n : Int} (h : n.natAbs < 2 ^ 53) : IsValue (doubleOfInt n) n := by
  obtain ⟨x, hx, -, hexact⟩ := isValue_doubleOfScaled (k := 0) (lt_two_pow_mono h (by decide))
  rw [hexact h (Nat.zero_le _), pow_zero, div_one] at hx
  exact hx

end Sys2Proof.Machine

/-! PROOFS. The dequantization in binary64 (45_reconstruction.md R557, R560, R561). -/

namespace Sys2Proof.Machine

/-- A fraction of few bits is a binary64, in whole units. -/
theorem exists_units_doubleOfScaled {n : Int} {k : Nat} (hn : n.natAbs < 2 ^ 53) (hk : k ≤ 1074) :
    ∃ neg units, classOfDouble (doubleOfScaled n k) = .finite neg units ∧
      (2 ^ k : Nat) * signedUnits neg units = n * (2 ^ 1074 : Nat) := by
  obtain ⟨x, ⟨neg, units, hclass, hx⟩, -, hexact⟩ := isValue_doubleOfScaled (k := k)
    (lt_two_pow_mono hn (by omega))
  refine ⟨neg, units, hclass, ?_⟩
  rw [hexact hn hk, div_eq_div_iff (by positivity) (by positivity)] at hx
  have hcast : ((2 ^ k : Nat) : ℝ) * signedUnits neg units = n * (2 ^ 1074 : Nat) := by
    rw [Nat.cast_pow, Nat.cast_pow, Nat.cast_ofNat, mul_comm, hx]
  exact Int.cast_injective (α := ℝ) (by rw [Int.cast_mul, Int.cast_mul, Int.cast_natCast, Int.cast_natCast, hcast])

/-- A product of a level, a table entry and a qscale has 25 bits. -/
theorem natAbs_product_lt (l : BitVec 10) (q : Byte) (c : Nat) (hc : c < 64) :
    (l.toInt * q.toNat * c).natAbs < 2 ^ 53 := by
  have hl : l.toInt.natAbs ≤ 512 := by
    have := BitVec.toInt_lt (x := l)
    have := BitVec.le_toInt (x := l)
    omega
  have hq : q.toNat ≤ 255 := Nat.le_of_lt_succ q.isLt
  rw [Int.natAbs_mul, Int.natAbs_mul, Int.natAbs_natCast, Int.natAbs_natCast]
  calc l.toInt.natAbs * q.toNat * c ≤ 512 * 255 * 63 := Nat.mul_le_mul (Nat.mul_le_mul hl hq) (Nat.le_of_lt_succ hc)
    _ < 2 ^ 53 := by decide

/-- Settles O30: both products have at most 53 bits. -/
theorem floatDequantizationIsExact : Obligations.FloatDequantizationIsExact := by
  refine ⟨fun l q qscale => ?_, fun d q => ?_⟩
  · obtain ⟨neg, units, hclass, hunits⟩ := exists_units_doubleOfScaled (k := 3)
      (natAbs_product_lt l q qscale.toNat qscale.isLt) (by decide)
    exact ⟨_, neg, units, rfl, hclass, hunits⟩
  · have hsmall := natAbs_product_lt d q 1 (by decide)
    rw [Nat.cast_one, mul_one] at hsmall
    obtain ⟨neg, units, hclass, hunits⟩ := exists_units_doubleOfScaled (k := 0) hsmall (by decide)
    rw [pow_zero, Nat.cast_one, one_mul] at hunits
    exact ⟨_, neg, units, rfl, rfl, hclass, hunits⟩

end Sys2Proof.Machine

/-! PROOFS. The default conversion to RGB (46_color.md R601, R610, R611). -/

namespace Sys2Proof.Machine

/-! ## Sums and products of binary64 values -/

/-- The rounded value of a fraction whose real value is known. -/
theorem exists_natAbs_lt {n : Int} {k : Nat} {x : ℝ} (hx : (n : ℝ) / 2 ^ k = x) (hbig : |x| < 2 ^ 900) :
    n.natAbs < 2 ^ (k + 970) := by
  have hpow : (0 : ℝ) < 2 ^ k := by positivity
  have habs : |x| = n.natAbs / 2 ^ k := by
    rw [← hx, abs_div, abs_of_pos hpow, Nat.cast_natAbs, Int.cast_abs]
  rw [habs, div_lt_iff₀ hpow, ← pow_add] at hbig
  have hlt : n.natAbs < 2 ^ (900 + k) := by exact_mod_cast hbig
  exact hlt.trans_le (Nat.pow_le_pow_right (by decide) (by omega))

/-- A sum is the nearest binary64. -/
theorem IsValue.add {a b : Double} {x y : ℝ} (ha : IsValue a x) (hb : IsValue b y) (hbig : |x + y| < 2 ^ 900) :
    ∃ z, IsValue (doubleAdd a b) z ∧ |z - (x + y)| ≤ |x + y| / 2 ^ 53 + 1 / 2 ^ 1075 := by
  obtain ⟨n, u, hu, rfl⟩ := ha
  obtain ⟨m, v, hv, rfl⟩ := hb
  have hsum : ((signedUnits n u + signedUnits m v : ℤ) : ℝ) / 2 ^ 1074 =
      signedUnits n u / 2 ^ 1074 + signedUnits m v / 2 ^ 1074 := by
    rw [Int.cast_add, add_div]
  rw [← hsum] at hbig ⊢
  simp only [doubleAdd, hu, hv]
  split
  case isTrue h0 =>
    refine ⟨0, isValue_withSign_zero _, ?_⟩
    rw [h0, Int.cast_zero, zero_div, sub_zero, abs_zero]
    positivity
  case isFalse =>
    obtain ⟨z, hz, hnear, -⟩ := isValue_doubleOfScaled (exists_natAbs_lt rfl hbig)
    exact ⟨z, hz, hnear⟩

theorem signFactor_bne (n m : Bool) : signFactor (n != m) = signFactor n * signFactor m := by
  cases n <;> cases m <;> simp [signFactor]

/-- A product is the nearest binary64. -/
theorem IsValue.mul {a b : Double} {x y : ℝ} (ha : IsValue a x) (hb : IsValue b y) (hbig : |x * y| < 2 ^ 900) :
    ∃ z, IsValue (doubleMul a b) z ∧ |z - x * y| ≤ |x * y| / 2 ^ 53 + 1 / 2 ^ 1075 := by
  obtain ⟨n, u, hu, rfl⟩ := ha
  obtain ⟨m, v, hv, rfl⟩ := hb
  have hprod : signFactor (n != m) * (((u * v : ℕ) : ℝ) / 2 ^ 2148) =
      signedUnits n u / 2 ^ 1074 * (signedUnits m v / 2 ^ 1074) := by
    have hpow : (2 : ℝ) ^ 2148 = 2 ^ 1074 * 2 ^ 1074 := by rw [← pow_add]
    rw [signedUnits_eq, signedUnits_eq, signFactor_bne, hpow, Nat.cast_mul]
    generalize (2 : ℝ) ^ 1074 = one
    ring
  have habs : |(signedUnits n u : ℝ) / 2 ^ 1074 * (signedUnits m v / 2 ^ 1074)| = ((u * v : ℕ) : ℝ) / 2 ^ 2148 := by
    rw [← hprod, abs_mul, abs_signFactor, one_mul, abs_of_nonneg (by positivity)]
  have hlt : u * v < 2 ^ (2148 + 970) := by
    have hint := exists_natAbs_lt (n := ((u * v : ℕ) : ℤ)) (k := 2148) (x := ((u * v : ℕ) : ℝ) / 2 ^ 2148)
      (by rw [Int.cast_natCast]) (by rw [abs_of_nonneg (by positivity), ← habs]; exact hbig)
    rwa [Int.natAbs_natCast] at hint
  obtain ⟨z, hz, hnear, -⟩ := isValue_roundDouble (n != m) hlt
  rw [hprod, ← habs] at hnear
  refine ⟨z, ?_, hnear⟩
  simp only [doubleMul, hu, hv]
  exact hz

/-- The negation of a value. -/
theorem IsValue.neg {a : Double} {x : ℝ} (ha : IsValue a x) : IsValue (doubleNeg a) (-x) := by
  obtain ⟨n, u, hu, rfl⟩ := ha
  have hexp : (doubleNeg a).extractLsb' 52 11 = a.extractLsb' 52 11 := by
    rw [doubleNeg, BitVec.extractLsb'_xor]
    exact BitVec.xor_zero
  have hfrac : (doubleNeg a).extractLsb' 0 52 = a.extractLsb' 0 52 := by
    rw [doubleNeg, BitVec.extractLsb'_xor]
    exact BitVec.xor_zero
  have hsign : doubleSign (doubleNeg a) = !doubleSign a := by
    rw [doubleSign, doubleNeg, BitVec.getLsbD_xor]
    exact Bool.xor_true _
  have hclass : classOfDouble (doubleNeg a) = .finite (!n) u := by
    simp only [classOfDouble, hexp, hfrac, hsign] at hu ⊢
    split_ifs at hu ⊢
    all_goals
      cases hu
      rfl
  refine ⟨!n, u, hclass, ?_⟩
  cases n <;> simp [signedUnits, neg_div]

/-- The floor of a value, in whole units. -/
theorem floorUnits_eq {neg : Bool} {u : Nat} {x : ℝ} (hx : (signedUnits neg u : ℝ) / 2 ^ 1074 = x) :
    floorUnits neg u = ⌊x⌋ := by
  have hcast : (signedUnits neg u : ℝ) / 2 ^ 1074 = (signedUnits neg u : ℝ) / ((2 ^ 1074 : ℕ) : ℝ) := by
    rw [Nat.cast_pow, Nat.cast_ofNat]
  rw [← hx, hcast, Int.floor_div_natCast, Int.floor_intCast]
  rfl

/-! ## Channels: how far the computed value is from the exact one -/

/-- A binary64 within `n` times 2^-18 of a real number. -/
def Approx (d : Double) (x : ℝ) (n : Nat) : Prop := ∃ z, IsValue d z ∧ |z - x| ≤ n / 2 ^ 18

theorem IsValue.approx {d : Double} {x : ℝ} (h : IsValue d x) : Approx d x 0 :=
  ⟨x, h, by simp⟩

/-- The rounding error of a number below 2^34 is below 2^-18. -/
theorem rounding_le {x : ℝ} (h : |x| ≤ 2 ^ 34) : |x| / 2 ^ 53 + 1 / 2 ^ 1075 ≤ 1 / 2 ^ 18 := by
  have hmain : |x| / 2 ^ 53 ≤ 2 ^ 34 / 2 ^ 53 := div_le_div_of_nonneg_right h (by positivity)
  have htiny : (1 : ℝ) / 2 ^ 1075 ≤ 1 / 2 ^ 20 :=
    one_div_le_one_div_of_le (by positivity) (pow_le_pow_right₀ (by norm_num) (by norm_num))
  calc |x| / 2 ^ 53 + 1 / 2 ^ 1075 ≤ 2 ^ 34 / 2 ^ 53 + 1 / 2 ^ 20 := add_le_add hmain htiny
    _ ≤ 1 / 2 ^ 18 := by norm_num

theorem lt_two_pow_900 {x : ℝ} (h : x ≤ 2 ^ 34) : x < 2 ^ 900 :=
  h.trans_lt (pow_lt_pow_right₀ (by norm_num) (by norm_num))

/-- A sum adds the distances of its terms and its own rounding. -/
theorem Approx.add {a b : Double} {x y : ℝ} {n m : Nat} (ha : Approx a x n) (hb : Approx b y m)
    (hx : |x + y| ≤ 2 ^ 33) (hn : n + m ≤ 2 ^ 18) : Approx (doubleAdd a b) (x + y) (n + m + 1) := by
  obtain ⟨z, hz, hzx⟩ := ha
  obtain ⟨w, hw, hwy⟩ := hb
  have hdist : |z + w - (x + y)| ≤ (n + m) / 2 ^ 18 := by
    calc |z + w - (x + y)| = |(z - x) + (w - y)| := by ring_nf
      _ ≤ |z - x| + |w - y| := abs_add_le ..
      _ ≤ n / 2 ^ 18 + m / 2 ^ 18 := add_le_add hzx hwy
      _ = (n + m) / 2 ^ 18 := (add_div ..).symm
  have hone : ((n : ℝ) + m) / 2 ^ 18 ≤ 1 := by
    rw [div_le_one (by positivity)]
    exact_mod_cast hn
  have hbound : |z + w| ≤ 2 ^ 34 := by
    calc |z + w| = |(z + w - (x + y)) + (x + y)| := by ring_nf
      _ ≤ |z + w - (x + y)| + |x + y| := abs_add_le ..
      _ ≤ 1 + 2 ^ 33 := add_le_add (hdist.trans hone) hx
      _ ≤ 2 ^ 34 := by norm_num
  obtain ⟨v, hv, hnear⟩ := hz.add hw (lt_two_pow_900 hbound)
  refine ⟨v, hv, ?_⟩
  calc |v - (x + y)| = |(v - (z + w)) + (z + w - (x + y))| := by ring_nf
    _ ≤ |v - (z + w)| + |z + w - (x + y)| := abs_add_le ..
    _ ≤ 1 / 2 ^ 18 + (n + m) / 2 ^ 18 := add_le_add (hnear.trans (rounding_le hbound)) hdist
    _ = ((n + m + 1 : ℕ) : ℝ) / 2 ^ 18 := by push_cast; ring

/-- A difference does, too. -/
theorem Approx.sub {a b : Double} {x y : ℝ} {n m : Nat} (ha : Approx a x n) (hb : Approx b y m)
    (hx : |x - y| ≤ 2 ^ 33) (hn : n + m ≤ 2 ^ 18) : Approx (doubleSub a b) (x - y) (n + m + 1) := by
  obtain ⟨w, hw, hwy⟩ := hb
  have hneg : Approx (doubleNeg b) (-y) m := by
    refine ⟨-w, hw.neg, ?_⟩
    rwa [neg_sub_neg, abs_sub_comm]
  rw [sub_eq_add_neg] at hx ⊢
  exact ha.add hneg hx hn

/-- A positive normal number by its bits: its exponent field is `e + 1`, its fraction makes it `m` units. -/
theorem IsValue.of_bits {d : Double} {b m e j : Nat} (hd : d = withSign false b) (hexp : b / 2 ^ 52 = e + 1)
    (hm : 2 ^ 52 + b % 2 ^ 52 = m) (he : e + j = 1074) : IsValue d (m / 2 ^ j) := by
  have hunits : unitsOfBits b = m * 2 ^ e := by
    rw [unitsOfBits, hexp, hm, if_neg (Nat.succ_ne_zero e), Nat.add_sub_cancel]
  have hpow : (2 : ℝ) ^ 1074 = 2 ^ e * 2 ^ j := by rw [← pow_add, he]
  refine ⟨false, _, hd ▸ classOfDouble_withSign false (by omega), ?_⟩
  rw [hunits, hpow, signedUnits_eq, div_eq_div_iff (by positivity) (by positivity)]
  push_cast
  simp only [signFactor, Bool.false_eq_true, if_false]
  ring

/-- A coefficient near `x` times a sample: the product's rounding, and the coefficient's distance. -/
theorem Approx.coef {a b : Double} {c x : ℝ} {n : Int} (ha : IsValue a c) (hc : |c - x| ≤ 1 / 2 ^ 48) (hx : |x| ≤ 2)
    (hb : IsValue b n) (hn : n.natAbs ≤ 2 ^ 30) : Approx (doubleMul a b) (x * n) 2 := by
  have hnabs : |(n : ℝ)| ≤ 2 ^ 30 := by
    rw [← Int.cast_abs, ← Nat.cast_natAbs]
    exact_mod_cast hn
  have hcabs : |c| ≤ 3 := by
    calc |c| = |(c - x) + x| := by ring_nf
      _ ≤ |c - x| + |x| := abs_add_le ..
      _ ≤ 1 / 2 ^ 48 + 2 := add_le_add hc hx
      _ ≤ 3 := by norm_num
  have hbound : |c * n| ≤ 2 ^ 34 := by
    rw [abs_mul]
    calc |c| * |(n : ℝ)| ≤ 3 * 2 ^ 30 := mul_le_mul hcabs hnabs (abs_nonneg _) (by norm_num)
      _ ≤ 2 ^ 34 := by norm_num
  obtain ⟨z, hz, hnear⟩ := ha.mul hb (lt_two_pow_900 hbound)
  have hdist : |c * n - x * n| ≤ 1 / 2 ^ 18 := by
    rw [← sub_mul, abs_mul]
    calc |c - x| * |(n : ℝ)| ≤ 1 / 2 ^ 48 * 2 ^ 30 := mul_le_mul hc hnabs (abs_nonneg _) (by norm_num)
      _ = 1 / 2 ^ 18 := by norm_num
  refine ⟨z, hz, ?_⟩
  calc |z - x * n| = |(z - c * n) + (c * n - x * n)| := by ring_nf
    _ ≤ |z - c * n| + |c * n - x * n| := abs_add_le ..
    _ ≤ 1 / 2 ^ 18 + 1 / 2 ^ 18 := add_le_add (hnear.trans (rounding_le hbound)) hdist
    _ = ((2 : ℕ) : ℝ) / 2 ^ 18 := by norm_num

theorem toNat_clampByte (v : Int) : ((clampByte v).toNat : Int) = min 255 (max 0 v) := by
  rw [clampByte, BitVec.toNat_ofInt]
  omega

/-- The floor of a value near a fraction of ten thousand that is no whole number is that of the fraction. -/
theorem floor_of_near {z : ℝ} {num : Int} (hz : |z - num / 10000| ≤ 8 / 2 ^ 18) (hnum : num % 10000 ≠ 0) :
    ⌊z⌋ = num / 10000 := by
  obtain ⟨hlow, hhigh⟩ := abs_le.mp hz
  have hsplit : (num : ℝ) = 10000 * ((num / 10000 : ℤ) : ℝ) + ((num % 10000 : ℤ) : ℝ) := by
    exact_mod_cast (Int.mul_ediv_add_emod num 10000).symm
  have hone : (1 : ℝ) ≤ ((num % 10000 : ℤ) : ℝ) := by exact_mod_cast (by omega : (1 : ℤ) ≤ num % 10000)
  have hmax : ((num % 10000 : ℤ) : ℝ) ≤ 9999 := by exact_mod_cast (by omega : num % 10000 ≤ (9999 : ℤ))
  rw [Int.floor_eq_iff]
  constructor <;> linarith

/-- A channel whose exact value plus 128.5 is the fraction `num / 10000`, no whole number, is its floor, clamped
(46_color.md R611). -/
theorem channelOf_of_approx {c : Double} {x : ℝ} {n : Nat} {num : Int} (h : Approx c x n) (hn : n ≤ 6)
    (hx : |x| ≤ 2 ^ 32) (heq : x + 128 + 1 / 2 = num / 10000) (hnum : num % 10000 ≠ 0) (free : Byte) :
    ((channelOf free c).toNat : Int) = min 255 (max 0 (num / 10000)) := by
  have h128 : IsValue 0x4060000000000000#64 128 := by
    have h := IsValue.of_bits (d := 0x4060000000000000#64) (b := 0x4060000000000000) (m := 2 ^ 52) (e := 1029) (j := 45)
      rfl (by norm_num) (by norm_num) rfl
    norm_num at h
    exact h
  have hhalf : IsValue 0x3FE0000000000000#64 (1 / 2) := by
    have h := IsValue.of_bits (d := 0x3FE0000000000000#64) (b := 0x3FE0000000000000) (m := 2 ^ 52) (e := 1021) (j := 53)
      rfl (by norm_num) (by norm_num) rfl
    norm_num at h
    exact h
  obtain ⟨hlow, hhigh⟩ := abs_le.mp hx
  have hsum := (h.add h128.approx (by rw [abs_le]; constructor <;> linarith) (by omega)).add hhalf.approx
    (by rw [abs_le]; constructor <;> linarith) (by omega)
  obtain ⟨z, ⟨neg, u, hclass, hz⟩, hnear⟩ := hsum
  have hle : |z - num / 10000| ≤ 8 / 2 ^ 18 := by
    rw [← heq]
    refine hnear.trans (div_le_div_of_nonneg_right ?_ (by positivity))
    exact_mod_cast (by omega : n + 0 + 1 + 0 + 1 ≤ 8)
  rw [channelOf, hclass]
  dsimp only
  rw [toNat_clampByte, floorUnits_eq hz, floor_of_near hle hnum]

/-! ## The obligation -/

/-- 1.402 in binary64 (46_color.md R610). -/
theorem exists_coefRCr : ∃ c, IsValue coefRCr c ∧ |c - ((14020 : ℤ) : ℝ) / 10000| ≤ 1 / 2 ^ 48 :=
  ⟨_, .of_bits (b := 0x3FF66E978D4FDF3B) (m := 0x166E978D4FDF3B) (e := 1022) (j := 52) rfl (by norm_num) (by norm_num) rfl,
    by norm_num [abs_le]⟩

/-- 0.3437 in binary64 (46_color.md R610). -/
theorem exists_coefGCb : ∃ c, IsValue coefGCb c ∧ |c - 3437 / 10000| ≤ 1 / 2 ^ 48 :=
  ⟨_, .of_bits (b := 0x3FD5FF2E48E8A71E) (m := 0x15FF2E48E8A71E) (e := 1020) (j := 54) rfl (by norm_num) (by norm_num) rfl,
    by norm_num [abs_le]⟩

/-- 0.7143 in binary64 (46_color.md R610). -/
theorem exists_coefGCr : ∃ c, IsValue coefGCr c ∧ |c - 7143 / 10000| ≤ 1 / 2 ^ 48 :=
  ⟨_, .of_bits (b := 0x3FE6DB8BAC710CB3) (m := 0x16DB8BAC710CB3) (e := 1021) (j := 53) rfl (by norm_num) (by norm_num) rfl,
    by norm_num [abs_le]⟩

/-- 1.772 in binary64 (46_color.md R610). -/
theorem exists_coefBCb : ∃ c, IsValue coefBCb c ∧ |c - ((17720 : ℤ) : ℝ) / 10000| ≤ 1 / 2 ^ 48 :=
  ⟨_, .of_bits (b := 0x3FFC5A1CAC083127) (m := 0x1C5A1CAC083127) (e := 1022) (j := 52) rfl (by norm_num) (by norm_num) rfl,
    by norm_num [abs_le]⟩

/-- An integer sample within 2^30 in binary64. -/
theorem isValue_sample {n : Int} (h : n.natAbs ≤ 2 ^ 30) : IsValue (doubleOfSample (.int n)) n :=
  isValue_doubleOfInt (h.trans_lt (by norm_num))

theorem abs_cast_le {n : Int} (h : n.natAbs ≤ 2 ^ 30) : |(n : ℝ)| ≤ 2 ^ 30 := by
  rw [← Int.cast_abs, ← Nat.cast_natAbs]
  exact_mod_cast h

section

variable {y cb cr : Int} (hy : y.natAbs ≤ 2 ^ 30) (hcb : cb.natAbs ≤ 2 ^ 30) (hcr : cr.natAbs ≤ 2 ^ 30)
include hy

/-- A channel of one chroma coefficient (46_color.md R610). -/
theorem channelOf_add_coef {coef : Double} {c : Int} (hc : c.natAbs ≤ 2 ^ 30) (k : Int) (hk : |(k : ℝ) / 10000| ≤ 2)
    (hcoef : ∃ v, IsValue coef v ∧ |v - k / 10000| ≤ 1 / 2 ^ 48) (hnum : (10000 * y + k * c + 1285000) % 10000 ≠ 0)
    (free : Byte) :
    ((channelOf free (doubleAdd (doubleOfSample (.int y)) (doubleMul coef (doubleOfSample (.int c))))).toNat : Int) =
      min 255 (max 0 ((10000 * y + k * c + 1285000) / 10000)) := by
  obtain ⟨v, hv, hnear⟩ := hcoef
  have hybound := abs_le.mp (abs_cast_le hy)
  have hprod : |(k : ℝ) / 10000 * c| ≤ 2 * 2 ^ 30 := by
    rw [abs_mul]
    exact mul_le_mul hk (abs_cast_le hc) (abs_nonneg _) (by norm_num)
  have hbound := abs_le.mp hprod
  have hsum : |(y : ℝ) + k / 10000 * c| ≤ 2 ^ 32 := by rw [abs_le]; constructor <;> linarith
  refine channelOf_of_approx ((isValue_sample hy).approx.add (Approx.coef hv hnear hk (isValue_sample hc) hc)
    (hsum.trans (by norm_num)) (by norm_num)) (by norm_num) hsum ?_ hnum free
  push_cast
  ring

include hcb hcr

/-- The green channel (46_color.md R610). -/
theorem channelOf_green (hnum : (10000 * y - 3437 * cb - 7143 * cr + 1285000) % 10000 ≠ 0) (free : Byte) :
    ((channelOf free (doubleSub (doubleSub (doubleOfSample (.int y)) (doubleMul coefGCb (doubleOfSample (.int cb))))
      (doubleMul coefGCr (doubleOfSample (.int cr))))).toNat : Int) =
      min 255 (max 0 ((10000 * y - 3437 * cb - 7143 * cr + 1285000) / 10000)) := by
  obtain ⟨v, hv, hnearv⟩ := exists_coefGCb
  obtain ⟨w, hw, hnearw⟩ := exists_coefGCr
  obtain ⟨hylow, hyhigh⟩ := abs_le.mp (abs_cast_le hy)
  obtain ⟨hcblow, hcbhigh⟩ := abs_le.mp (abs_cast_le hcb)
  obtain ⟨hcrlow, hcrhigh⟩ := abs_le.mp (abs_cast_le hcr)
  have hcbprod := Approx.coef hv hnearv (by norm_num [abs_le]) (isValue_sample hcb) hcb
  have hcrprod := Approx.coef hw hnearw (by norm_num [abs_le]) (isValue_sample hcr) hcr
  have hfirst := (isValue_sample hy).approx.sub hcbprod (by rw [abs_le]; constructor <;> linarith) (by norm_num)
  have hsecond := hfirst.sub hcrprod (by rw [abs_le]; constructor <;> linarith) (by norm_num)
  refine channelOf_of_approx hsecond (by norm_num) (by rw [abs_le]; constructor <;> linarith) ?_ hnum free
  push_cast
  ring

end

/-- The default conversion of integer samples, channel by channel (46_color.md R610, R611). -/
theorem consoleToRgb_default {p : Params} {y cb cr : Int} (hp : p.rgbConversion = .default) (hy : y.natAbs ≤ 2 ^ 30)
    (hcb : cb.natAbs ≤ 2 ^ 30) (hcr : cr.natAbs ≤ 2 ^ 30) :
    ((10000 * y + 14020 * cr + 1285000) % 10000 ≠ 0 → ((consoleToRgb p (.int y) (.int cb) (.int cr)).r.toNat : Int) =
      min 255 (max 0 ((10000 * y + 14020 * cr + 1285000) / 10000))) ∧
    ((10000 * y - 3437 * cb - 7143 * cr + 1285000) % 10000 ≠ 0 →
      ((consoleToRgb p (.int y) (.int cb) (.int cr)).g.toNat : Int) =
        min 255 (max 0 ((10000 * y - 3437 * cb - 7143 * cr + 1285000) / 10000))) ∧
    ((10000 * y + 17720 * cb + 1285000) % 10000 ≠ 0 → ((consoleToRgb p (.int y) (.int cb) (.int cr)).b.toNat : Int) =
      min 255 (max 0 ((10000 * y + 17720 * cb + 1285000) / 10000))) := by
  simp only [consoleToRgb, hp, consoleToRgbDefault]
  exact ⟨fun h => channelOf_add_coef hy hcr 14020 (by norm_num [abs_le]) exists_coefRCr h _,
    fun h => channelOf_green hy hcb hcr h _,
    fun h => channelOf_add_coef hy hcb 17720 (by norm_num [abs_le]) exists_coefBCb h _⟩

/-- A zero sample is the binary64 0 in both variants. -/
theorem doubleOfSample_zeroSample (v : Variant) : doubleOfSample (zeroSample v) = doubleOfSample (.int 0) := by
  cases v <;> rfl

/-- Zero is grey (46_color.md R610, R611). -/
theorem consoleToRgb_zero {p : Params} (hp : p.rgbConversion = .default) (v : Variant) :
    consoleToRgb p (zeroSample v) (zeroSample v) (zeroSample v) = ⟨128#8, 128#8, 128#8⟩ := by
  have hgrey {b : Byte} (h : (b.toNat : Int) = 128) : b = 128#8 := BitVec.eq_of_toNat_eq (by exact_mod_cast h)
  simp only [consoleToRgb, hp, consoleToRgbDefault, doubleOfSample_zeroSample, Pixel.mk.injEq]
  exact ⟨hgrey (channelOf_add_coef (c := 0) (by decide) (by decide) 14020 (by norm_num [abs_le]) exists_coefRCr (by decide) _),
    hgrey (channelOf_green (by decide) (by decide) (by decide) (by decide) _),
    hgrey (channelOf_add_coef (c := 0) (by decide) (by decide) 17720 (by norm_num [abs_le]) exists_coefBCb (by decide) _)⟩

/-- NEAREST takes the chroma at half the position (46_color.md R601). -/
theorem pixelAt_of_nearest {s : State} (h : s.cfg.upsampler = .nearest) (x y : Nat) :
    chromaAt s x y = ⟨planeRead s .cb (x / 2) (y / 2), planeRead s .cr (x / 2) (y / 2)⟩ ∧
    pixelAt s x y = consoleToRgb s.params (planeRead s .y x y) (planeRead s .cb (x / 2) (y / 2))
      (planeRead s .cr (x / 2) (y / 2)) := by
  have hchroma : chromaAt s x y = ⟨planeRead s .cb (x / 2) (y / 2), planeRead s .cr (x / 2) (y / 2)⟩ := by
    simp only [chromaAt, h]
  exact ⟨hchroma, by simp only [pixelAt, hchroma]⟩

/-- CONFIGURE that answers OK has reset the core (47_host_interface.md R650). -/
theorem exec_configure_ok {width height : Int} {v : Variant} {merge : Bool} {u : Upsampler} {s t : State}
    (h : exec (.configure width height v merge u) s = .next t) (hok : t.reply = some .ok) :
    t = { afterConfigure ⟨BitVec.ofInt 16 width, BitVec.ofInt 16 height, v, merge, u⟩ s with reply := some .ok } := by
  have hrefused (h : refuse s = .next t) : False := by
    cases h
    cases hok
  obtain ⟨hidle, -⟩ := whenIdle_eq_next h
  rw [exec_configure_of_idle hidle] at h
  by_cases hsize : 1 ≤ width ∧ width ≤ s.params.maxDim.toNat ∧ 1 ≤ height ∧ height ≤ s.params.maxDim.toNat
  case neg =>
    rw [if_pos hsize] at h
    exact (hrefused h).elim
  rw [if_neg (not_not_intro hsize)] at h
  split at h
  · exact (hrefused h).elim
  · cases h
    rfl

/-- READ_RGB that answers OK has written its array, at a stride that holds a row (47_host_interface.md R655). -/
theorem exec_readRgb_ok {len offset stride : Nat} {s t : State} (h : exec (.readRgb len offset stride) s = .next t)
    (hok : t.reply = some .ok) :
    s.cfg.width.toNat ≤ stride ∧ t.outRgb = rgbWrites s offset stride s.outRgb := by
  have hrefused (h : refuse s = .next t) : False := by
    cases h
    cases hok
  obtain ⟨hidle, -⟩ := whenIdle_eq_next h
  rw [exec_readRgb_of_idle hidle] at h
  split_ifs at h with hconf hlegal
  · exact (hrefused h).elim
  · exact (hrefused h).elim
  · cases h
    exact ⟨not_lt.mp (not_or.mp hlegal).1, rfl⟩

/-- Settles O45: the rounding errors of a channel are below the distance of its exact value from a whole number; the planes
after CONFIGURE are zero, which is grey. -/
theorem nearestAndTheDefaultConversion : Obligations.NearestAndTheDefaultConversion := by
  refine ⟨fun s x y h => pixelAt_of_nearest h x y, fun p y cb cr hp hy hcb hcr => consoleToRgb_default hp hy hcb hcr, ?_⟩
  intro width height v merge len offset stride x y s t u hp hconf hok hread hok' hx hy hwf
  have ht := exec_configure_ok hconf hok
  obtain ⟨hstride, hout⟩ := exec_readRgb_ok hread hok'
  have hzero (q : PlaneId) (x y : Nat) : planeRead t q x y = zeroSample v := by
    rw [ht]
    cases q <;> rfl
  have hpixel : pixelAt t x y = ⟨128#8, 128#8, 128#8⟩ := by
    rw [(pixelAt_of_nearest (by rw [ht]; rfl) x y).2, hzero, hzero, hzero]
    exact consoleToRgb_zero (by rw [ht]; exact hp) v
  have hwf' : Memory.wf none t.outRgb = true := by
    rw [ht]
    exact hwf
  rw [hout, (read_rgbWrites hwf' hstride).1 x y hx hy, hpixel]

end Sys2Proof.Machine

/-! PROOFS. The default floating-point inverse DCT and its formula (45_reconstruction.md R566; log 7). -/

namespace Sys2Proof.Machine

/-! ## The tabled cosines -/

/-- `cos(k * pi / 16)`. -/
noncomputable def cosSixteenth (k : Nat) : ℝ := Real.cos (k * Real.pi / 16)

theorem cosSixteenth_sq (k : Nat) : cosSixteenth k ^ 2 = (1 + cosSixteenth (2 * k)) / 2 := by
  rw [cosSixteenth, cosSixteenth, Real.cos_sq]
  push_cast
  ring_nf

/-- The cosine at the supplement. -/
theorem cosSixteenth_supplement {k : Nat} (h : k ≤ 16) : cosSixteenth (16 - k) = -cosSixteenth k := by
  rw [cosSixteenth, cosSixteenth, ← Real.cos_pi_sub]
  push_cast [Nat.cast_sub h]
  ring_nf

/-- The cosine half a turn on. -/
theorem cosSixteenth_add_sixteen (k : Nat) : cosSixteenth (k + 16) = -cosSixteenth k := by
  rw [cosSixteenth, cosSixteenth, ← Real.cos_add_pi]
  push_cast
  ring_nf

/-- The cosine is the same after whole turns. -/
theorem cosSixteenth_mod (k : Nat) : cosSixteenth (k % 32) = cosSixteenth k := by
  have hsplit : (k : ℝ) = ((k % 32 : ℕ) : ℝ) + ((k / 32 : ℕ) : ℝ) * 32 := by
    exact_mod_cast (Nat.mod_add_div' k 32).symm
  rw [cosSixteenth, cosSixteenth, ← Real.cos_add_nat_mul_two_pi _ (k / 32), hsplit]
  ring_nf

theorem cosSixteenth_nonneg {k : Nat} (h : k ≤ 8) : 0 ≤ cosSixteenth k := by
  have hk : (k : ℝ) ≤ 8 := by exact_mod_cast h
  refine Real.cos_nonneg_of_neg_pi_div_two_le_of_le ?_ ?_
  · have : 0 ≤ (k : ℝ) * Real.pi / 16 := by positivity
    linarith [Real.pi_pos]
  · nlinarith [Real.pi_pos]

theorem cosSixteenth_zero : cosSixteenth 0 = 1 := by
  simp [cosSixteenth]

theorem cosSixteenth_eight : cosSixteenth 8 = 0 := by
  rw [cosSixteenth, show ((8 : ℕ) : ℝ) * Real.pi / 16 = Real.pi / 2 by push_cast; ring]
  exact Real.cos_pi_div_two

/-- A number that is not negative is near another if its square lies between the squares of the bounds. -/
theorem near_of_sq {x c a ε e b : ℝ} (hx : 0 ≤ x) (hsq : x ^ 2 = (1 + c) / 2) (hc : |c - a| ≤ ε) (he : 0 ≤ b + e)
    (hlow : (b - e) ^ 2 ≤ (1 + a - ε) / 2) (hhigh : (1 + a + ε) / 2 ≤ (b + e) ^ 2) : |x - b| ≤ e := by
  obtain ⟨hclow, hchigh⟩ := abs_le.mp hc
  rw [abs_le]
  constructor
  · have : b - e ≤ x := le_of_sq_le_sq (by linarith) hx
    linarith
  · have : x ≤ b + e := le_of_sq_le_sq (by linarith) he
    linarith

/-- The tabled cosines of the odd quarters are within 2^-59 of the cosines, by halving the angle from the right one
twice. -/
theorem near_quarterCosines {k : Nat} (hk : k ≤ 8) :
    |cosSixteenth k - (quarterCosines.getD k 0 : ℝ) / 2 ^ 61| ≤ 1 / 2 ^ 59 := by
  have h4 : |cosSixteenth 4 - 1630477228166597777 / 2 ^ 61| ≤ 1 / 2 ^ 61 := by
    refine near_of_sq (a := 0) (ε := 0) (cosSixteenth_nonneg (by norm_num)) (cosSixteenth_sq 4) ?_ ?_ ?_ ?_
    · rw [cosSixteenth_eight]; norm_num
    all_goals norm_num
  have h12 : |cosSixteenth 12 - -(1630477228166597777 / 2 ^ 61)| ≤ 1 / 2 ^ 61 := by
    rwa [cosSixteenth_supplement (k := 4) (by norm_num), neg_sub_neg, abs_sub_comm]
  have h2 : |cosSixteenth 2 - 2130321161396766249 / 2 ^ 61| ≤ 1 / 2 ^ 60 := by
    refine near_of_sq (cosSixteenth_nonneg (by norm_num)) (cosSixteenth_sq 2) h4 ?_ ?_ ?_ <;> norm_num
  have h6 : |cosSixteenth 6 - 882407917260943721 / 2 ^ 61| ≤ 1 / 2 ^ 60 := by
    refine near_of_sq (cosSixteenth_nonneg (by norm_num)) (cosSixteenth_sq 6) h12 ?_ ?_ ?_ <;> norm_num
  have h14 : |cosSixteenth 14 - -(2130321161396766249 / 2 ^ 61)| ≤ 1 / 2 ^ 60 := by
    rwa [cosSixteenth_supplement (k := 2) (by norm_num), neg_sub_neg, abs_sub_comm]
  have h10 : |cosSixteenth 10 - -(882407917260943721 / 2 ^ 61)| ≤ 1 / 2 ^ 60 := by
    rwa [cosSixteenth_supplement (k := 6) (by norm_num), neg_sub_neg, abs_sub_comm]
  have hodd {k : Nat} {a : ℝ} (hk : k ≤ 8) (hc : |cosSixteenth (2 * k) - a| ≤ 1 / 2 ^ 60) (b : ℝ) (hb : 0 ≤ b)
      (hlow : (b - 1 / 2 ^ 59) ^ 2 ≤ (1 + a - 1 / 2 ^ 60) / 2) (hhigh : (1 + a + 1 / 2 ^ 60) / 2 ≤ (b + 1 / 2 ^ 59) ^ 2) :
      |cosSixteenth k - b| ≤ 1 / 2 ^ 59 :=
    near_of_sq (cosSixteenth_nonneg hk) (cosSixteenth_sq k) hc (by positivity) hlow hhigh
  interval_cases k
  · rw [cosSixteenth_zero]; norm_num [quarterCosines]
  · exact hodd hk h2 _ (by norm_num [quarterCosines]) (by norm_num [quarterCosines]) (by norm_num [quarterCosines])
  · exact h2.trans (by norm_num)
  · exact hodd hk h6 _ (by norm_num [quarterCosines]) (by norm_num [quarterCosines]) (by norm_num [quarterCosines])
  · exact h4.trans (by norm_num)
  · exact hodd hk h10 _ (by norm_num [quarterCosines]) (by norm_num [quarterCosines]) (by norm_num [quarterCosines])
  · exact h6.trans (by norm_num)
  · exact hodd hk h14 _ (by norm_num [quarterCosines]) (by norm_num [quarterCosines]) (by norm_num [quarterCosines])
  · rw [cosSixteenth_eight]; norm_num [quarterCosines]

/-- The tabled half cosine is within 2^-60 of half the cosine, for every multiple of the sixteenth. -/
theorem near_halfCosine (k : Nat) : |(halfCosine k : ℝ) / 2 ^ 62 - cosSixteenth k / 2| ≤ 1 / 2 ^ 60 := by
  have hscale {t : ℤ} {c : ℝ} (h : |c - (t : ℝ) / 2 ^ 61| ≤ 1 / 2 ^ 59) : |(t : ℝ) / 2 ^ 62 - c / 2| ≤ 1 / 2 ^ 60 := by
    have heq : (t : ℝ) / 2 ^ 62 - c / 2 = -(c - (t : ℝ) / 2 ^ 61) / 2 := by ring
    rw [heq, abs_div, abs_neg, abs_of_pos (show (0 : ℝ) < 2 by norm_num), div_le_iff₀ (by norm_num)]
    exact h.trans (by norm_num)
  have hneg {t : ℤ} {c : ℝ} (h : |c - (t : ℝ) / 2 ^ 61| ≤ 1 / 2 ^ 59) :
      |-c - ((-t : ℤ) : ℝ) / 2 ^ 61| ≤ 1 / 2 ^ 59 := by
    rwa [Int.cast_neg, neg_div, neg_sub_neg, abs_sub_comm]
  have hlt : k % 32 < 32 := Nat.mod_lt _ (by decide)
  rw [← cosSixteenth_mod, halfCosine]
  generalize k % 32 = r at hlt ⊢
  split_ifs with h8 h16 h24
  · exact hscale (near_quarterCosines h8)
  · have hflip : cosSixteenth r = -cosSixteenth (16 - r) := by rw [cosSixteenth_supplement h16, neg_neg]
    rw [hflip]
    exact hscale (hneg (near_quarterCosines (by omega)))
  · have hflip : cosSixteenth r = -cosSixteenth (r - 16) := by
      rw [← cosSixteenth_add_sixteen, Nat.sub_add_cancel (by omega)]
    rw [hflip]
    exact hscale (hneg (near_quarterCosines (by omega)))
  · have hflip : cosSixteenth r = cosSixteenth (32 - r) := by
      have hback : r = r - 16 + 16 := by omega
      have hturn : 32 - r = 16 - (r - 16) := by omega
      rw [hturn, cosSixteenth_supplement (by omega), ← cosSixteenth_add_sixteen, ← hback]
    rw [hflip]
    exact hscale (near_quarterCosines (by omega))

/-! ## The basis of the formula -/

/-- `C(u) * cos((2x + 1) * u * pi / 16) / 2` (45_reconstruction.md R566). -/
noncomputable def idctFactor (x u : Nat) : ℝ :=
  (if u = 0 then 1 / √2 else 1) * Real.cos ((2 * x + 1) * u * Real.pi / 16) / 2

theorem cosSixteenth_four : cosSixteenth 4 = 1 / √2 := by
  rw [cosSixteenth, show ((4 : ℕ) : ℝ) * Real.pi / 16 = Real.pi / 4 by push_cast; ring, Real.cos_pi_div_four,
    Real.sqrt_div_self']

/-- A factor of the formula is half a cosine of a sixteenth. -/
theorem idctFactor_eq (x u : Nat) : idctFactor x u = cosSixteenth (if u = 0 then 4 else (2 * x + 1) * u) / 2 := by
  rw [idctFactor]
  split
  case isTrue h =>
    subst h
    rw [cosSixteenth_four]
    simp
  case isFalse =>
    rw [cosSixteenth, one_mul]
    push_cast
    rfl

/-- The tabled factor is within 2^-60 of the formula's. -/
theorem near_idctBasis (x u : Nat) : |(idctBasis x u : ℝ) / 2 ^ 62 - idctFactor x u| ≤ 1 / 2 ^ 60 := by
  rw [idctFactor_eq, idctBasis]
  split <;> exact near_halfCosine _

theorem abs_idctFactor_le (x u : Nat) : |idctFactor x u| ≤ 1 / 2 := by
  rw [idctFactor_eq, abs_div, abs_of_pos (show (0 : ℝ) < 2 by norm_num)]
  exact div_le_div_of_nonneg_right (Real.abs_cos_le_one _) (by norm_num)

/-! ## The formula as one sum -/

/-- A coefficient (45_reconstruction.md R566), of the list in units of 2^-1074. -/
noncomputable def coefficient (units : List Int) (i : Nat) : ℝ := (units.getD i 0 : ℝ) / 2 ^ 1074

/-- The formula of 45_reconstruction.md R566 for sample `k`, over the 64 coefficients. -/
noncomputable def idctFormula (units : List Int) (k : Nat) : ℝ :=
  ∑ i ∈ Finset.range 64, coefficient units i * (idctFactor (k % 8) (i % 8) * idctFactor (k / 8) (i / 8))

/-- A sum over 64 numbers, by rows. -/
theorem sum_range_64 (f : Nat → ℝ) :
    ∑ i ∈ Finset.range 64, f i = ∑ u ∈ Finset.range 8, ∑ w ∈ Finset.range 8, f (8 * w + u) := by
  rw [← Finset.sum_product']
  refine (Finset.sum_nbij' (fun q => 8 * q.2 + q.1) (fun i => (i % 8, i / 8)) ?_ ?_ ?_ ?_ ?_).symm
  · intro q hq
    simp only [Finset.mem_product, Finset.mem_range] at hq ⊢
    omega
  · intro i hi
    simp only [Finset.mem_product, Finset.mem_range] at hi ⊢
    omega
  · intro q hq
    simp only [Finset.mem_product, Finset.mem_range] at hq
    exact Prod.ext (by simp only; omega) (by simp only; omega)
  · intro i _
    simp only
    omega
  · intro q _
    rfl

theorem idctFormula_eq (units : List Int) (k : Fin 64) :
    idctFormula units k.val =
      1 / 4 * ∑ u ∈ Finset.range 8, ∑ w ∈ Finset.range 8,
        (if u = 0 then 1 / √2 else 1) * (if w = 0 then 1 / √2 else 1) *
          ((units.getD (8 * w + u) 0 : ℤ) / 2 ^ 1074 : ℝ) *
          Real.cos ((2 * (k.val % 8 : ℕ) + 1) * u * Real.pi / 16) *
          Real.cos ((2 * (k.val / 8 : ℕ) + 1) * w * Real.pi / 16) := by
  rw [idctFormula, sum_range_64, Finset.mul_sum]
  refine Finset.sum_congr rfl fun u hu => ?_
  rw [Finset.mul_sum]
  refine Finset.sum_congr rfl fun w hw => ?_
  have hu8 := Finset.mem_range.mp hu
  have hcol : (8 * w + u) % 8 = u := by omega
  have hrow : (8 * w + u) / 8 = w := by omega
  rw [hcol, hrow, coefficient, idctFactor, idctFactor]
  generalize (2 : ℝ) ^ 1074 = one
  ring

/-- A fold that adds is a sum. -/
theorem foldl_add_eq_sum (f : Nat → Int) (n : Nat) :
    (List.range n).foldl (fun sum i => sum + f i) 0 = ∑ i ∈ Finset.range n, f i := by
  induction n with
  | zero => rfl
  | succ n ih => rw [List.range_succ, List.foldl_append, ih, Finset.sum_range_succ]; rfl

/-- The model's formula, in real numbers. -/
theorem idctScaled_eq (units : List Int) (k : Fin 64) :
    (idctScaled units k : ℝ) / 2 ^ 1198 = ∑ i ∈ Finset.range 64, coefficient units i *
      ((idctBasis (k.val % 8) (i % 8) : ℝ) / 2 ^ 62 * ((idctBasis (k.val / 8) (i / 8) : ℝ) / 2 ^ 62)) := by
  have hpow : (2 : ℝ) ^ 1198 = 2 ^ 1074 * (2 ^ 62 * 2 ^ 62) := by rw [← pow_add, ← pow_add]
  have hsum : idctScaled units k = ∑ i ∈ Finset.range 64,
      units.getD i 0 * idctBasis (k.val % 8) (i % 8) * idctBasis (k.val / 8) (i / 8) := foldl_add_eq_sum _ 64
  rw [hsum, Int.cast_sum, Finset.sum_div]
  refine Finset.sum_congr rfl fun i _ => ?_
  rw [hpow, coefficient]
  push_cast
  generalize (2 : ℝ) ^ 1074 = one
  ring

/-- The sum of the coefficients' magnitudes. -/
noncomputable def magnitude (units : List Int) : ℝ := ((units.map Int.natAbs).sum : ℝ) / 2 ^ 1074

theorem sum_natAbs_getD (units : List Int) :
    ∑ i ∈ Finset.range units.length, (units.getD i 0).natAbs = (units.map Int.natAbs).sum := by
  induction units with
  | nil => rfl
  | cons u units ih =>
    rw [List.length_cons, Finset.sum_range_succ', List.map_cons, List.sum_cons, ← ih, Nat.add_comm]
    rfl

/-- The magnitudes of 64 coefficients. -/
theorem sum_abs_coefficient {units : List Int} (h : units.length = 64) :
    ∑ i ∈ Finset.range 64, |coefficient units i| = magnitude units := by
  have habs (i : Nat) : |coefficient units i| = ((units.getD i 0).natAbs : ℝ) / 2 ^ 1074 := by
    rw [coefficient, abs_div, abs_of_pos (show (0 : ℝ) < 2 ^ 1074 by positivity), Nat.cast_natAbs, Int.cast_abs]
  simp only [habs]
  rw [← Finset.sum_div, magnitude, ← sum_natAbs_getD, h, Nat.cast_sum]

theorem magnitude_nonneg (units : List Int) : 0 ≤ magnitude units := by
  rw [magnitude]
  positivity

/-- Products of near factors are near. -/
theorem abs_mul_sub_mul_le {a b c d ε : ℝ} (hab : |a - b| ≤ ε) (hcd : |c - d| ≤ ε) (hb : |b| ≤ 1 / 2) (hd : |d| ≤ 1 / 2) :
    |a * c - b * d| ≤ ε + ε * ε := by
  have hε : 0 ≤ ε := (abs_nonneg _).trans hab
  calc |a * c - b * d| = |(a - b) * (c - d) + (a - b) * d + b * (c - d)| := by ring_nf
    _ ≤ |(a - b) * (c - d)| + |(a - b) * d| + |b * (c - d)| := abs_add_three ..
    _ = |a - b| * |c - d| + |a - b| * |d| + |b| * |c - d| := by simp only [abs_mul]
    _ ≤ ε * ε + ε * (1 / 2) + 1 / 2 * ε :=
        add_le_add (add_le_add (mul_le_mul hab hcd (abs_nonneg _) hε) (mul_le_mul hab hd (abs_nonneg _) hε))
          (mul_le_mul hb hcd (abs_nonneg _) (by norm_num))
    _ = ε + ε * ε := by ring

/-- The tabled formula is near the formula, in proportion to the magnitudes. -/
theorem near_idctScaled {units : List Int} (h : units.length = 64) (k : Fin 64) :
    |(idctScaled units k : ℝ) / 2 ^ 1198 - idctFormula units k.val| ≤
      magnitude units * (1 / 2 ^ 60 + 1 / 2 ^ 60 * (1 / 2 ^ 60)) := by
  rw [idctScaled_eq, idctFormula, ← Finset.sum_sub_distrib, ← sum_abs_coefficient h, Finset.sum_mul]
  refine (Finset.abs_sum_le_sum_abs _ _).trans (Finset.sum_le_sum fun i _ => ?_)
  rw [← mul_sub, abs_mul]
  exact mul_le_mul_of_nonneg_left
    (abs_mul_sub_mul_le (near_idctBasis _ _) (near_idctBasis _ _) (abs_idctFactor_le _ _) (abs_idctFactor_le _ _))
    (abs_nonneg _)

/-- The formula is bounded by the magnitudes. -/
theorem abs_idctFormula_le {units : List Int} (h : units.length = 64) (k : Nat) :
    |idctFormula units k| ≤ magnitude units := by
  rw [idctFormula, ← sum_abs_coefficient h]
  refine (Finset.abs_sum_le_sum_abs _ _).trans (Finset.sum_le_sum fun i _ => ?_)
  rw [abs_mul, abs_mul]
  refine mul_le_of_le_one_right (abs_nonneg _) ?_
  calc |idctFactor (k % 8) (i % 8)| * |idctFactor (k / 8) (i / 8)| ≤ 1 / 2 * (1 / 2) :=
        mul_le_mul (abs_idctFactor_le _ _) (abs_idctFactor_le _ _) (abs_nonneg _) (by norm_num)
    _ ≤ 1 := by norm_num

/-! ## The obligation -/

/-- Each coefficient has its units. -/
theorem length_finiteUnits {blk : List Double} {units : List Int} (h : finiteUnits blk = some units) :
    units.length = blk.length := by
  induction blk generalizing units with
  | nil => cases h; rfl
  | cons d blk ih =>
    rw [finiteUnits] at h
    split at h
    case h_1 hus =>
      cases h
      rw [List.length_cons, ih hus, List.length_cons]
    case h_2 => cases h

theorem foldl_natAbs (units : List Int) (start : Nat) :
    units.foldl (fun sum u => sum + u.natAbs) start = start + (units.map Int.natAbs).sum := by
  induction units generalizing start with
  | nil => rfl
  | cons u units ih => rw [List.foldl_cons, ih, List.map_cons, List.sum_cons, Nat.add_assoc]

/-- Coefficients within 2^20 have magnitudes within 2^26. -/
theorem magnitude_le {units : List Int} (h : units.length = 64) (hbound : ∀ u ∈ units, u.natAbs ≤ 2 ^ 1094) :
    magnitude units ≤ 2 ^ 26 := by
  have hsum : (units.map Int.natAbs).sum ≤ 64 * 2 ^ 1094 := by
    have hle := List.sum_le_card_nsmul (units.map Int.natAbs) (2 ^ 1094) (List.forall_mem_map.mpr hbound)
    rwa [List.length_map, h, smul_eq_mul] at hle
  have hcast : ((units.map Int.natAbs).sum : ℝ) ≤ 64 * 2 ^ 1094 :=
    calc ((units.map Int.natAbs).sum : ℝ) ≤ ((64 * 2 ^ 1094 : ℕ) : ℝ) := Nat.cast_le.mpr hsum
      _ = 64 * 2 ^ 1094 := by rw [Nat.cast_mul, Nat.cast_pow, Nat.cast_ofNat, Nat.cast_ofNat]
  have hpow : (64 : ℝ) * 2 ^ 1094 = 2 ^ 26 * 2 ^ 1074 := by
    rw [show (64 : ℝ) = 2 ^ 6 by norm_num, ← pow_add, ← pow_add]
  rwa [magnitude, div_le_iff₀ (by positivity), ← hpow]

/-- A value that the model takes as near its formula is near the tabled one (log 7). -/
theorem near_of_idctNear {units : List Int} {k : Fin 64} {d : Double} (h : idctNear units k d = true) :
    ∃ neg v, classOfDouble d = .finite neg v ∧
      |(signedUnits neg v : ℝ) / 2 ^ 1074 - (idctScaled units k : ℝ) / 2 ^ 1198| ≤ (1 + magnitude units) / (10 ^ 9 + 1) := by
  unfold idctNear at h
  split at h
  case h_1 => cases h
  case h_2 => cases h
  case h_3 neg v hclass =>
    refine ⟨neg, v, hclass, ?_⟩
    have hnat := of_decide_eq_true h
    rw [foldl_natAbs] at hnat
    have hreal : |(signedUnits neg v : ℝ) * 2 ^ 124 - idctScaled units k| * (10 ^ 9 + 1) ≤
        (2 ^ 1074 + ((units.map Int.natAbs).sum : ℝ)) * 2 ^ 124 := by
      have hcast : ((signedUnits neg v * (2 ^ 124 : Nat) - idctScaled units k).natAbs : ℝ) =
          |(signedUnits neg v : ℝ) * 2 ^ 124 - idctScaled units k| := by
        rw [Nat.cast_natAbs, Int.cast_abs, Int.cast_sub, Int.cast_mul, Int.cast_natCast, Nat.cast_pow, Nat.cast_ofNat]
      rw [← hcast]
      exact_mod_cast hnat
    have hpow : (2 : ℝ) ^ 1198 = 2 ^ 1074 * 2 ^ 124 := by rw [← pow_add]
    have hone : (0 : ℝ) < 2 ^ 1074 := by positivity
    rw [magnitude, hpow]
    generalize (2 : ℝ) ^ 1074 = one at hreal hone ⊢
    have hdist : (signedUnits neg v : ℝ) / one - (idctScaled units k : ℝ) / (one * 2 ^ 124) =
        ((signedUnits neg v : ℝ) * 2 ^ 124 - idctScaled units k) / (one * 2 ^ 124) := by
      field_simp
    rw [hdist, abs_div, abs_of_pos (show 0 < one * 2 ^ 124 by positivity), div_le_div_iff₀ (by positivity) (by norm_num)]
    calc |(signedUnits neg v : ℝ) * 2 ^ 124 - idctScaled units k| * (10 ^ 9 + 1)
        ≤ (one + ((units.map Int.natAbs).sum : ℝ)) * 2 ^ 124 := hreal
      _ = (1 + ((units.map Int.natAbs).sum : ℝ) / one) * (one * 2 ^ 124) := by field_simp

/-- The nearest binary64 to the tabled formula is near it. -/
theorem near_idctNominal {units : List Int} (h : units.length = 64) (hbound : ∀ u ∈ units, u.natAbs ≤ 2 ^ 1094)
    (k : Fin 64) :
    ∃ neg v, classOfDouble (idctNominal units k) = .finite neg v ∧
      |(signedUnits neg v : ℝ) / 2 ^ 1074 - (idctScaled units k : ℝ) / 2 ^ 1198| ≤ (1 + magnitude units) / (10 ^ 9 + 1) := by
  have hmag := magnitude_nonneg units
  have hvalue : |(idctScaled units k : ℝ) / 2 ^ 1198| ≤ 2 * magnitude units := by
    calc |(idctScaled units k : ℝ) / 2 ^ 1198|
        = |((idctScaled units k : ℝ) / 2 ^ 1198 - idctFormula units k.val) + idctFormula units k.val| := by
          rw [sub_add_cancel]
      _ ≤ |(idctScaled units k : ℝ) / 2 ^ 1198 - idctFormula units k.val| + |idctFormula units k.val| := abs_add_le ..
      _ ≤ magnitude units * (1 / 2 ^ 60 + 1 / 2 ^ 60 * (1 / 2 ^ 60)) + magnitude units :=
          add_le_add (near_idctScaled h k) (abs_idctFormula_le h k.val)
      _ ≤ magnitude units * 1 + magnitude units := add_le_add_left (mul_le_mul_of_nonneg_left (by norm_num) hmag) _
      _ = 2 * magnitude units := by ring
  have hsmall : |(idctScaled units k : ℝ) / 2 ^ 1198| ≤ 2 ^ 34 :=
    hvalue.trans ((mul_le_mul_of_nonneg_left (magnitude_le h hbound) (by norm_num)).trans (by norm_num))
  obtain ⟨x, ⟨neg, v, hclass, rfl⟩, hnear, -⟩ :=
    isValue_doubleOfScaled (exists_natAbs_lt rfl (lt_two_pow_900 hsmall))
  refine ⟨neg, v, hclass, hnear.trans ?_⟩
  have htiny : (1 : ℝ) / 2 ^ 1075 ≤ 1 / 2 ^ 53 :=
    one_div_le_one_div_of_le (by positivity) (pow_le_pow_right₀ (by norm_num) (by norm_num))
  calc |(idctScaled units k : ℝ) / 2 ^ 1198| / 2 ^ 53 + 1 / 2 ^ 1075 ≤ 2 * magnitude units / 2 ^ 53 + 1 / 2 ^ 53 :=
        add_le_add (div_le_div_of_nonneg_right hvalue (by positivity)) htiny
    _ ≤ (1 + magnitude units) / (10 ^ 9 + 1) := by
        rw [← add_div, div_le_div_iff₀ (by positivity) (by norm_num)]
        linarith

/-- Both errors together keep to the bound: the factor 10^9 + 1 leaves room for the tabled cosines. -/
theorem idct_error_le {m : ℝ} (hm : 0 ≤ m) :
    (1 + m) / (10 ^ 9 + 1) + m * (1 / 2 ^ 60 + 1 / 2 ^ 60 * (1 / 2 ^ 60)) ≤ (1 + m) / 10 ^ 9 := by
  linarith

/-- Settles O31: the tabled factors are within 2^-60 of the formula's, the value within the model's bound of the tabled
formula, or the nearest binary64 to it. -/
theorem floatIdctIsHeldToTheFormula : Obligations.FloatIdctIsHeldToTheFormula := by
  intro p k hp
  refine ⟨fun blk units hlen hunits hbound => ?_, fun m c => by simp only [idct1Float, hp]⟩
  have h64 : units.length = 64 := (length_finiteUnits hunits).trans hlen
  have hvalue : ∃ neg v, classOfDouble (idctFloat p blk k) = .finite neg v ∧
      |(signedUnits neg v : ℝ) / 2 ^ 1074 - (idctScaled units k : ℝ) / 2 ^ 1198| ≤
        (1 + magnitude units) / (10 ^ 9 + 1) := by
    simp only [idctFloat, hp, hunits]
    split
    case isTrue hnear => exact near_of_idctNear hnear
    case isFalse => exact near_idctNominal h64 hbound k
  obtain ⟨neg, v, hclass, hnear⟩ := hvalue
  refine ⟨neg, v, hclass, ?_⟩
  rw [← idctFormula_eq]
  calc |(signedUnits neg v : ℝ) / 2 ^ 1074 - idctFormula units k.val|
      = |((signedUnits neg v : ℝ) / 2 ^ 1074 - (idctScaled units k : ℝ) / 2 ^ 1198) +
          ((idctScaled units k : ℝ) / 2 ^ 1198 - idctFormula units k.val)| := by rw [sub_add_sub_cancel]
    _ ≤ _ := abs_add_le ..
    _ ≤ (1 + magnitude units) / (10 ^ 9 + 1) + magnitude units * (1 / 2 ^ 60 + 1 / 2 ^ 60 * (1 / 2 ^ 60)) :=
        add_le_add hnear (near_idctScaled h64 k)
    _ ≤ (1 + magnitude units) / 10 ^ 9 := idct_error_le (magnitude_nonneg units)

end Sys2Proof.Machine
